-- ==== Sys2Proof/Word.lean ====
section
/-! DEFINITION. The widths the spec gives fields (R172): a byte, a two-byte and a four-byte field. -/

namespace Sys2Proof

/-- One byte: a link character's data value, a tablet or sensor byte, a code, a mask (R2, R155, R172). -/
abbrev Byte := BitVec 8

/-- A two-byte field, most significant byte first on every line (R172). -/
abbrev Half := BitVec 16

/-- A four-byte field: positions, goals, thresholds, arguments, the event mask (R172). -/
abbrev Word := BitVec 32

end Sys2Proof
end

