-- ==== Sys2Proof/Config.lean ====
section
/-! DEFINITION. The values the spec leaves open: each an opaque constant, so that nothing can be proved of its value. -/

namespace Sys2Proof

/-- The mask byte in the answer of CONFIG_FAULT when the stored halt groups are MEMBERSHIP, by source code. R146 says the
answer carries the settings as stored and R176 that the request's mask byte is then not read; no rule states this byte.
DESIGN CHOICE (a free value, log entry 12), safe. -/
opaque Config.membershipMaskByte : Byte → Byte

end Sys2Proof
end

