-- ==== Sys2Proof/Syntax.lean ====
section
/-! DEFINITION. The commands the block takes: one constructor of `Instr` for each row of spec/opcode_table.json, with the
operands the row's rule names, and the requests of R174 as a type of their own (`Request`). -/

namespace Sys2Proof

/-- Where an answer record goes (R159): SELF for a request from the serial line, station s for one from a COMMAND frame. -/
inductive AnswerDest where
  | self
  | station (s : BitVec 4)
  deriving DecidableEq, Repr

/-- What a request keeps until it is answered (R159): its tag, the station its answer names, its answer destination. -/
structure ReqCtx where
  tag : Byte
  station : Byte
  dest : AnswerDest
  deriving DecidableEq, Repr

/-- The strap pins (R178): STN3 to STN0 and RATE1, RATE0. -/
structure Straps where
  stn : BitVec 4
  rate : BitVec 2
  deriving DecidableEq, Repr

/-- A frame as a station received it through its check character (R2, R6): the data values, and whether the stop bit of any
of its characters was dominant. -/
structure RxFrame where
  claim : Byte
  length : Byte
  payload : List Byte
  check : Byte
  stopLow : Bool
  deriving DecidableEq, Repr

/-- Which character broke a frame (R5): the first character with mark bit 0, the length character with mark bit 1, or a
later character with mark bit 1 after a length character of the value given. -/
inductive BrokenAt where
  | claim
  | length
  | later (len : Byte)
  deriving DecidableEq, Repr

/-- One byte of a serial line: its eight data bits and whether its stop bit was low. -/
structure LineByte where
  value : Byte
  stopLow : Bool
  deriving DecidableEq, Repr

/-- A message from a smart sensor, as received (R103, R177). -/
structure SensorMsg where
  header : Byte
  body : List Byte
  check : Byte
  stopLow : Bool
  deriving DecidableEq, Repr

/-- The nine parameters of CONFIG_MOTOR as its request carries them (R174). -/
structure RawParams where
  kp : Half
  ki : Half
  kx : Byte
  vmax : Half
  acc : Half
  limit : Half
  ilim : Half
  stallTime : Half
  tolerance : Byte
  deriving DecidableEq, Repr

/-- One note of QUEUE_NOTES as its request carries it (R174). -/
structure RawNote where
  frequency : Half
  duration : Half
  volume : Byte
  waveform : Byte
  gap : Byte
  deriving DecidableEq, Repr

/-- The follow arguments of SET_FOLLOW as its request carries them (R174): source kind, its channel, index or port, value
number, gear and offset. -/
structure RawFollow where
  source : Byte
  which : Byte
  valueNumber : Byte
  numerator : Half
  denominator : Half
  offset : Word
  deriving DecidableEq, Repr

/-- The arguments of SET_WATCH after its index, as its request carries them (R174). -/
structure RawWatch where
  subject : Byte
  which : Byte
  valueNumber : Byte
  condition : Byte
  lo : Word
  hi : Word
  hysteresis : Half
  action : Byte
  mask : Byte
  cue : Byte
  deriving DecidableEq, Repr

/-- The start byte of QUEUE_NOTES (R174): start form in bits 7 and 6, keep flag in bit 5, cue number in bits 4 to 0. -/
structure RawStart where
  form : BitVec 2
  keep : Bool
  cue : BitVec 5
  deriving DecidableEq, Repr

/-- A request body after its three header bytes, its kind and length already judged (R174, R176). The arguments are the raw
bytes: the owning block checks them. -/
inductive Request where
  | setMotor (ch mode : Byte) (value : Word) (cue : Byte) (keep : Bool)
  | setFollow (ch : Byte) (f : RawFollow) (cue : Byte) (keep : Bool)
  | configMotor (ch kind : Byte) (p : RawParams)
  | resetPosition (ch : Byte) (value : Word)
  | setPublish (period : Half) (items : List Byte)
  | setListen (index source item : Byte) (limit : Half)
  | dropListen (index : Byte)
  | joinGroups (mask : Byte)
  | sendCue (mask cue : Byte)
  | dropCues (cue : Byte)
  | listCues (filter : Byte)
  | stageSnapshot (cue : Byte) (keep : Bool)
  | stageRearm (cue : Byte) (keep : Bool)
  | setSensorMode (port mode : Byte)
  | portReset (port : Byte)
  | setWatch (index : Byte) (w : RawWatch)
  | clearWatch (index : Byte)
  | rearm (index : Byte)
  | queueNotes (start : RawStart) (notes : List RawNote)
  | startSound (cue : Byte) (keep : Bool)
  | stopSound (arg cue : Byte) (keep : Bool)
  | clearSound
  | setVolume (master mark : Byte)
  | configFault (source reaction : Byte) (grace : Half) (style form mask : Byte)
  | halt (reaction style form mask : Byte)
  | clearFault
  | setKeepalive (period : Half)
  | setEventMask (mask : Word)
  | readStatus (sect : Byte)
  | restart
  deriving DecidableEq, Repr

/-- The commands of the block, one for each row of spec/opcode_table.json. The first rows are events of its lines, pins and
timers; the request rows execute a request already taken, whose answer goes where `h` says. -/
inductive Instr where
  -- resets
  | coldReset
  | resetEnd (straps : Straps) (battery : Nat) (temperature : Int) (linkUp : Bool)
  -- the brick link
  | quietGapEnd
  | contentionLoss
  | bitClash
  | frameBroken (at' : BrokenAt)
  | verdict (rx : RxFrame)
  | frameDelivered
  | frameSpoiled
  | lineStuck
  | stationSilenceExpiry (station : BitVec 4)
  | duplicateSuppressionExpiry
  -- publishing and listening
  | publishTimerExpiry
  | ageTimerExpiry (entry : Fin 16)
  -- motor channels
  | controlPeriodExpiry (ch : Fin 4) (current : Nat)
  | encoderTransition (ch : Fin 4) (line1 line2 : Bool)
  | pwmWrap (ch : Fin 4)
  -- sensor ports, port p carried as p - 1
  | detectSample (port : Fin 4) (mv : Nat)
  | analogSample (port : Fin 4) (mv : Nat)
  | rateMeasurement (port : Fin 4) (ns : Nat)
  | rateMeasurementTimeout (port : Fin 4)
  | acknowledgeSent (port : Fin 4)
  | sensorMessageReceived (port : Fin 4) (m : SensorMsg)
  | sensorGapTimeout (port : Fin 4)
  | sensorMessageSent (port : Fin 4)
  | descriptionTimerExpiry (port : Fin 4)
  | silenceTimerExpiry (port : Fin 4)
  | switchTimerExpiry (port : Fin 4)
  | nudgeTimerExpiry (port : Fin 4)
  -- sound
  | sampleClock
  | speakerPwmWrap
  -- supply and faults
  | supplySample (mv : Nat)
  | temperatureReading (deg : Int)
  | graceTimerExpiry (source : Fin 8)
  | keepaliveTimerExpiry
  -- the tablet port
  | tabletMessage (bytes : List LineByte)
  | tabletGapTimeout
  | recordSent
  | deadlineTimerExpiry (entry : Nat)
  | linkUpFall
  | linkUpRise
  | restartDone
  -- requests executed at this station
  | setMotor (h : ReqCtx) (ch mode : Byte) (value : Word) (cue : Byte) (keep : Bool)
  | setFollow (h : ReqCtx) (ch : Byte) (f : RawFollow) (cue : Byte) (keep : Bool)
  | configMotor (h : ReqCtx) (ch kind : Byte) (p : RawParams)
  | resetPosition (h : ReqCtx) (ch : Byte) (value : Word)
  | setPublish (h : ReqCtx) (period : Half) (items : List Byte)
  | setListen (h : ReqCtx) (index source item : Byte) (limit : Half)
  | dropListen (h : ReqCtx) (index : Byte)
  | joinGroups (h : ReqCtx) (mask : Byte)
  | sendCue (h : ReqCtx) (mask cue : Byte)
  | dropCues (h : ReqCtx) (cue : Byte)
  | listCues (h : ReqCtx) (filter : Byte)
  | stageSnapshot (h : ReqCtx) (cue : Byte) (keep : Bool)
  | stageRearm (h : ReqCtx) (cue : Byte) (keep : Bool)
  | setSensorMode (h : ReqCtx) (port mode : Byte)
  | portReset (h : ReqCtx) (port : Byte)
  | setWatch (h : ReqCtx) (index : Byte) (w : RawWatch)
  | clearWatch (h : ReqCtx) (index : Byte)
  | rearm (h : ReqCtx) (index : Byte)
  | queueNotes (h : ReqCtx) (start : RawStart) (notes : List RawNote)
  | startSound (h : ReqCtx) (cue : Byte) (keep : Bool)
  | stopSound (h : ReqCtx) (arg cue : Byte) (keep : Bool)
  | clearSound (h : ReqCtx)
  | setVolume (h : ReqCtx) (master mark : Byte)
  | configFault (h : ReqCtx) (source reaction : Byte) (grace : Half) (style form mask : Byte)
  | halt (h : ReqCtx) (reaction style form mask : Byte)
  | clearFault (h : ReqCtx)
  | setKeepalive (h : ReqCtx) (period : Half)
  | setEventMask (h : ReqCtx) (mask : Word)
  | readStatus (h : ReqCtx) (sect : Byte)
  | restart (h : ReqCtx)
  -- rows the table lists last
  | startBitSeen
  | lengthAbove40Read (len : Byte)
  | firstFallingEdge (port : Fin 4)
  | tabletBadMessage
  deriving DecidableEq, Repr

end Sys2Proof
end

