-- ==== Sys2Proof/WellFormed.lean ====
section
/-! DEFINITION. When a command's operands can arise at all: the ranges and lengths that the rows' rules give them. The
meanings are total on every operand; these checks say which operands the spec speaks of. -/

namespace Sys2Proof

/-- A frame received through its check character holds as many payload characters as its length gives, 0 to 40 (R6). -/
def RxFrame.wf (rx : RxFrame) : Bool :=
  decide (rx.length.toNat ≤ 40) && decide (rx.payload.length = rx.length.toNat)

/-- A sensor message holds as many body bytes as bits 4 to 0 of its header give (R103). -/
def SensorMsg.wf (m : SensorMsg) : Bool := decide (m.body.length = m.header.toNat % 32)

/-- The bytes of one tablet message, or of the part of one that has come when a gap or a bad byte ends it: at most sync, length,
60 body bytes and the check byte, no stop bit low (R156). -/
def tabletBytesWf (bytes : List LineByte) : Bool :=
  decide (1 ≤ bytes.length ∧ bytes.length ≤ 63) && bytes.all fun b => !b.stopLow

/-- A mean bridge current is taken from 0 to 4000 mA, a larger reading as 4000 (R87): every reading is well formed up to
the width of a two-byte field. -/
def readingWf (x : Nat) : Bool := decide (x < 65536)

/-- The temperature is reported in a signed two-byte field (R175). -/
def temperatureWf (t : Int) : Bool := decide (-32768 ≤ t ∧ t ≤ 32767)

/-- The checks of a command's operands. -/
def Instr.wf : Instr → Bool
  | .resetEnd _ battery temperature _ => readingWf battery && temperatureWf temperature
  | .verdict rx => rx.wf
  | .stationSilenceExpiry s => decide (1 ≤ s.toNat ∧ s.toNat ≤ 14)
  | .controlPeriodExpiry _ current => readingWf current
  | .detectSample _ mv => readingWf mv
  | .analogSample _ mv => readingWf mv
  | .sensorMessageReceived _ m => m.wf
  | .supplySample mv => readingWf mv
  | .temperatureReading t => temperatureWf t
  | .tabletMessage bytes => tabletBytesWf bytes
  | .deadlineTimerExpiry entry => decide (entry < 8)
  | .setPublish _ _ items => decide (items.length ≤ 54)
  | .queueNotes _ _ notes => decide (notes.length ≤ 8)
  | .lengthAbove40Read len => decide (40 < len.toNat)
  | _ => true

end Sys2Proof
end

