-- ==== Sys2Proof/Decode.lean ====
section
/-! DEFINITION. From bits to commands and requests. The opcode table gives no row any bits, so no word spells a command.
What the spec does lay out in bytes, the request bodies of R174, is decoded and encoded here. -/

namespace Sys2Proof

/-- The command a word spells by the table's bits: none, since no row of spec/opcode_table.json gives bits. -/
def decodeTableWord (_nbits _w : Nat) : Option Instr := none

/-- A two-byte field, most significant byte first (R172). -/
def half (a b : Byte) : Half := a ++ b

/-- A four-byte field, most significant byte first (R172). -/
def word (a b c d : Byte) : Word := a ++ b ++ c ++ d

/-- The two bytes of a field, most significant first (R172). -/
def halfBytes (x : Half) : List Byte := [x.extractLsb' 8 8, x.extractLsb' 0 8]

/-- The four bytes of a field, most significant first (R172). -/
def wordBytes (x : Word) : List Byte :=
  [x.extractLsb' 24 8, x.extractLsb' 16 8, x.extractLsb' 8 8, x.extractLsb' 0 8]

/-- A keep byte of 0 is clear, any other value is set (R174). -/
def keepOf (b : Byte) : Bool := b != 0

/-- The start byte of QUEUE_NOTES (R174). -/
def startOf (b : Byte) : RawStart :=
  { form := b.extractLsb' 6 2, keep := b.getLsbD 5, cue := b.extractLsb' 0 5 }

/-- The notes of QUEUE_NOTES, 7 bytes each; none where the length is not a multiple of 7 (R174, R176). -/
def notesOf : List Byte → Option (List RawNote)
  | [] => some []
  | f1 :: f0 :: d1 :: d0 :: v :: w :: g :: rest =>
    (notesOf rest).map ({ frequency := half f1 f0, duration := half d1 d0, volume := v, waveform := w, gap := g } :: ·)
  | _ => none

def decodeSetMotor : List Byte → Option Request
  | [ch, mode, a, b, c, d, cue, keep] => some (.setMotor ch mode (word a b c d) cue (keepOf keep))
  | _ => none

def decodeSetFollow : List Byte → Option Request
  | [ch, src, wh, vn, n1, n0, d1, d0, a, b, c, d, cue, keep] =>
    some (.setFollow ch (.mk src wh vn (half n1 n0) (half d1 d0) (word a b c d)) cue (keepOf keep))
  | _ => none

def decodeConfigMotor : List Byte → Option Request
  | [ch, kind, p1, p0, i1, i0, kx, v1, v0, a1, a0, l1, l0, m1, m0, t1, t0, tol] =>
    some (.configMotor ch kind (.mk (half p1 p0) (half i1 i0) kx (half v1 v0) (half a1 a0) (half l1 l0) (half m1 m0)
      (half t1 t0) tol))
  | _ => none

def decodeResetPosition : List Byte → Option Request
  | [ch, a, b, c, d] => some (.resetPosition ch (word a b c d))
  | _ => none

/-- A length other than 6 plus the item count is one the kind does not allow (R176). -/
def decodeSetPublish : List Byte → Option Request
  | p1 :: p0 :: n :: items => if items.length = n.toNat then some (.setPublish (half p1 p0) items) else none
  | _ => none

def decodeSetListen : List Byte → Option Request
  | [index, source, item, l1, l0] => some (.setListen index source item (half l1 l0))
  | _ => none

def decodeSetWatch : List Byte → Option Request
  | [index, subj, wh, vn, cond, a, b, c, d, e, f, g, i, h1, h0, act, mask, cue] =>
    some (.setWatch index (.mk subj wh vn cond (word a b c d) (word e f g i) (half h1 h0) act mask cue))
  | _ => none

def decodeQueueNotes : List Byte → Option Request
  | start :: rest => (notesOf rest).map (.queueNotes (startOf start))
  | [] => none

def decodeConfigFault : List Byte → Option Request
  | [source, reaction, g1, g0, style, form, mask] => some (.configFault source reaction (half g1 g0) style form mask)
  | _ => none

def decodeHalt : List Byte → Option Request
  | [reaction, style, form, mask] => some (.halt reaction style form mask)
  | _ => none

def decodeSetEventMask : List Byte → Option Request
  | [a, b, c, d] => some (.setEventMask (word a b c d))
  | _ => none

/-- A request with no arguments. -/
def decode0 (r : Request) : List Byte → Option Request
  | [] => some r
  | _ => none

/-- A request with one byte of arguments. -/
def decode1 (f : Byte → Request) : List Byte → Option Request
  | [a] => some (f a)
  | _ => none

/-- A request with two bytes of arguments. -/
def decode2 (f : Byte → Byte → Request) : List Byte → Option Request
  | [a, b] => some (f a b)
  | _ => none

/-- A request with three bytes of arguments. -/
def decode3 (f : Byte → Byte → Byte → Request) : List Byte → Option Request
  | [a, b, c] => some (f a b c)
  | _ => none

/-- The request of a kind and the bytes after the three header bytes (R174); none where the kind is unknown or does not
allow that length (R176). -/
def decodeRequest (kind : Byte) (args : List Byte) : Option Request :=
  match kind.toNat with
  | 1 => decodeSetMotor args
  | 2 => decodeSetFollow args
  | 3 => decodeConfigMotor args
  | 4 => decodeResetPosition args
  | 5 => decodeSetPublish args
  | 6 => decodeSetListen args
  | 7 => decode1 .dropListen args
  | 8 => decode1 .joinGroups args
  | 9 => decode2 .sendCue args
  | 10 => decode1 .dropCues args
  | 11 => decode1 .listCues args
  | 12 => decode2 (fun cue keep => .stageSnapshot cue (keepOf keep)) args
  | 13 => decode2 (fun cue keep => .stageRearm cue (keepOf keep)) args
  | 14 => decode2 .setSensorMode args
  | 15 => decode1 .portReset args
  | 16 => decodeSetWatch args
  | 17 => decode1 .clearWatch args
  | 18 => decode1 .rearm args
  | 19 => decodeQueueNotes args
  | 20 => decode2 (fun cue keep => .startSound cue (keepOf keep)) args
  | 21 => decode3 (fun arg cue keep => .stopSound arg cue (keepOf keep)) args
  | 22 => decode0 .clearSound args
  | 23 => decode2 .setVolume args
  | 24 => decodeConfigFault args
  | 25 => decodeHalt args
  | 26 => decode0 .clearFault args
  | 27 => decode2 (fun a b => .setKeepalive (half a b)) args
  | 28 => decodeSetEventMask args
  | 29 => decode1 .readStatus args
  | 30 => decode0 .restart args
  | _ => none

/-! ## The encoder of requests -/

/-- The kind byte of a request (R174). -/
def Request.kind : Request → Byte
  | .setMotor .. => 1
  | .setFollow .. => 2
  | .configMotor .. => 3
  | .resetPosition .. => 4
  | .setPublish .. => 5
  | .setListen .. => 6
  | .dropListen .. => 7
  | .joinGroups .. => 8
  | .sendCue .. => 9
  | .dropCues .. => 10
  | .listCues .. => 11
  | .stageSnapshot .. => 12
  | .stageRearm .. => 13
  | .setSensorMode .. => 14
  | .portReset .. => 15
  | .setWatch .. => 16
  | .clearWatch .. => 17
  | .rearm .. => 18
  | .queueNotes .. => 19
  | .startSound .. => 20
  | .stopSound .. => 21
  | .clearSound => 22
  | .setVolume .. => 23
  | .configFault .. => 24
  | .halt .. => 25
  | .clearFault => 26
  | .setKeepalive .. => 27
  | .setEventMask .. => 28
  | .readStatus .. => 29
  | .restart => 30

/-- A keep byte, 1 for set (R172). -/
def keepByte (k : Bool) : Byte := if k then 1 else 0

/-- The start byte of QUEUE_NOTES (R174). -/
def startByte (st : RawStart) : Byte := st.form ++ (BitVec.ofBool st.keep) ++ st.cue

/-- The seven bytes of one note (R174). -/
def noteBytes (n : RawNote) : List Byte :=
  halfBytes n.frequency ++ halfBytes n.duration ++ [n.volume, n.waveform, n.gap]

/-- The argument bytes of a request (R174). -/
def Request.args : Request → List Byte
  | .setMotor ch mode value cue keep => [ch, mode] ++ wordBytes value ++ [cue, keepByte keep]
  | .setFollow ch f cue keep =>
    [ch, f.source, f.which, f.valueNumber] ++ halfBytes f.numerator ++ halfBytes f.denominator ++ wordBytes f.offset
      ++ [cue, keepByte keep]
  | .configMotor ch kind p =>
    [ch, kind] ++ halfBytes p.kp ++ halfBytes p.ki ++ [p.kx] ++ halfBytes p.vmax ++ halfBytes p.acc ++ halfBytes p.limit
      ++ halfBytes p.ilim ++ halfBytes p.stallTime ++ [p.tolerance]
  | .resetPosition ch value => [ch] ++ wordBytes value
  | .setPublish period items => halfBytes period ++ [BitVec.ofNat 8 items.length] ++ items
  | .setListen index source item limit => [index, source, item] ++ halfBytes limit
  | .dropListen index => [index]
  | .joinGroups mask => [mask]
  | .sendCue mask cue => [mask, cue]
  | .dropCues cue => [cue]
  | .listCues filter => [filter]
  | .stageSnapshot cue keep => [cue, keepByte keep]
  | .stageRearm cue keep => [cue, keepByte keep]
  | .setSensorMode port mode => [port, mode]
  | .portReset port => [port]
  | .setWatch index w =>
    [index, w.subject, w.which, w.valueNumber, w.condition] ++ wordBytes w.lo ++ wordBytes w.hi ++ halfBytes w.hysteresis
      ++ [w.action, w.mask, w.cue]
  | .clearWatch index => [index]
  | .rearm index => [index]
  | .queueNotes start notes => [startByte start] ++ notes.flatMap noteBytes
  | .startSound cue keep => [cue, keepByte keep]
  | .stopSound arg cue keep => [arg, cue, keepByte keep]
  | .clearSound => []
  | .setVolume master mark => [master, mark]
  | .configFault source reaction grace style form mask => [source, reaction] ++ halfBytes grace ++ [style, form, mask]
  | .halt reaction style form mask => [reaction, style, form, mask]
  | .clearFault => []
  | .setKeepalive period => halfBytes period
  | .setEventMask mask => wordBytes mask
  | .readStatus sect => [sect]
  | .restart => []

/-- A request that a body of at most 60 bytes can carry (R156, R174). -/
def Request.wf : Request → Bool
  | .setPublish _ items => decide (items.length ≤ 54)
  | .queueNotes _ notes => decide (notes.length ≤ 8)
  | _ => true

/-- A request body: tag, destination, kind, arguments (R174). -/
def requestBody (tag dest : Byte) (r : Request) : List Byte := tag :: dest :: r.kind :: r.args

/-! ## Requests and the rows that execute them -/

/-- The row that executes a request whose answer goes where `h` says (R159). -/
def Request.instr (h : ReqCtx) : Request → Instr
  | .setMotor ch mode value cue keep => .setMotor h ch mode value cue keep
  | .setFollow ch f cue keep => .setFollow h ch f cue keep
  | .configMotor ch kind p => .configMotor h ch kind p
  | .resetPosition ch value => .resetPosition h ch value
  | .setPublish period items => .setPublish h period items
  | .setListen index source item limit => .setListen h index source item limit
  | .dropListen index => .dropListen h index
  | .joinGroups mask => .joinGroups h mask
  | .sendCue mask cue => .sendCue h mask cue
  | .dropCues cue => .dropCues h cue
  | .listCues filter => .listCues h filter
  | .stageSnapshot cue keep => .stageSnapshot h cue keep
  | .stageRearm cue keep => .stageRearm h cue keep
  | .setSensorMode port mode => .setSensorMode h port mode
  | .portReset port => .portReset h port
  | .setWatch index w => .setWatch h index w
  | .clearWatch index => .clearWatch h index
  | .rearm index => .rearm h index
  | .queueNotes start notes => .queueNotes h start notes
  | .startSound cue keep => .startSound h cue keep
  | .stopSound arg cue keep => .stopSound h arg cue keep
  | .clearSound => .clearSound h
  | .setVolume master mark => .setVolume h master mark
  | .configFault source reaction grace style form mask => .configFault h source reaction grace style form mask
  | .halt reaction style form mask => .halt h reaction style form mask
  | .clearFault => .clearFault h
  | .setKeepalive period => .setKeepalive h period
  | .setEventMask mask => .setEventMask h mask
  | .readStatus sect => .readStatus h sect
  | .restart => .restart h

/-- The request a row executes, with where its answer goes; none for a row that is no request. -/
def Instr.request : Instr → Option (ReqCtx × Request)
  | .setMotor h ch mode value cue keep => some (h, .setMotor ch mode value cue keep)
  | .setFollow h ch f cue keep => some (h, .setFollow ch f cue keep)
  | .configMotor h ch kind p => some (h, .configMotor ch kind p)
  | .resetPosition h ch value => some (h, .resetPosition ch value)
  | .setPublish h period items => some (h, .setPublish period items)
  | .setListen h index source item limit => some (h, .setListen index source item limit)
  | .dropListen h index => some (h, .dropListen index)
  | .joinGroups h mask => some (h, .joinGroups mask)
  | .sendCue h mask cue => some (h, .sendCue mask cue)
  | .dropCues h cue => some (h, .dropCues cue)
  | .listCues h filter => some (h, .listCues filter)
  | .stageSnapshot h cue keep => some (h, .stageSnapshot cue keep)
  | .stageRearm h cue keep => some (h, .stageRearm cue keep)
  | .setSensorMode h port mode => some (h, .setSensorMode port mode)
  | .portReset h port => some (h, .portReset port)
  | .setWatch h index w => some (h, .setWatch index w)
  | .clearWatch h index => some (h, .clearWatch index)
  | .rearm h index => some (h, .rearm index)
  | .queueNotes h start notes => some (h, .queueNotes start notes)
  | .startSound h cue keep => some (h, .startSound cue keep)
  | .stopSound h arg cue keep => some (h, .stopSound arg cue keep)
  | .clearSound h => some (h, .clearSound)
  | .setVolume h master mark => some (h, .setVolume master mark)
  | .configFault h source reaction grace style form mask => some (h, .configFault source reaction grace style form mask)
  | .halt h reaction style form mask => some (h, .halt reaction style form mask)
  | .clearFault h => some (h, .clearFault)
  | .setKeepalive h period => some (h, .setKeepalive period)
  | .setEventMask h mask => some (h, .setEventMask mask)
  | .readStatus h sect => some (h, .readStatus sect)
  | .restart h => some (h, .restart)
  | _ => none

end Sys2Proof
end

