-- ==== Sys2Proof/Machine/State.lean ====
section
/-! DEFINITION. The state of the block as plain data, unit by unit, and the state after cold reset. -/

namespace Sys2Proof.Machine

/-- Reasons a step could stop with a fault. The spec gives every command an effect, or none in the states where its event
cannot arise, so no meaning raises one: the type has no constructor (safe). -/
inductive Fault where
  deriving DecidableEq, Repr

/-- Reasons a step has no meaning. -/
inductive Refusal where
  /-- Raised by an arm of `exec` alone, for a row with no meaning yet. Every row has one: no arm raises it (safe). -/
  | notModelled (mnemonic : String)
  deriving DecidableEq, Repr

/-! ## The link controller -/

/-- The link states, in the order of R14. -/
inductive LinkState where
  | offline | listening | idle | receiving | sending | verdict | stuck
  deriving DecidableEq, Repr

/-- The block and request that offered a frame (R16), which also settles its class and subkind. -/
inductive FrameOwner where
  | halt
  /-- The request a SEND_CUE waits to answer (R49). -/
  | cueRequest (h : ReqCtx)
  /-- The watch whose action offered the CUE frame (R122). -/
  | cueWatch (k : Fin 8)
  /-- The relay entry the COMMAND frame belongs to (R161). -/
  | command (id : Nat)
  | answer
  /-- A NOTICE, with the lost count its record carries (R165). -/
  | notice (carried : Nat)
  | publish
  deriving DecidableEq, Repr

/-- A frame of the send queue (R16). Its age is its place in the queue, oldest first. -/
structure Frame where
  owner : FrameOwner
  claim : Byte
  payload : List Byte
  spoils : Nat
  /-- In contention: from its start bit to the end of its verdict slot, a loss or a clash (R16). -/
  contending : Bool
  deriving DecidableEq, Repr

/-- A received frame that the station judged sound and holds until the end of the verdict slot (R11, R12). -/
structure HeldFrame where
  claim : Byte
  payload : List Byte
  deriving DecidableEq, Repr

/-- The link controller (R1 to R23). -/
structure Link where
  own : BitVec 4
  rate : BitVec 2
  state : LinkState
  /-- The line is still in a quiet gap whose end has been met, so that an offer may contend at once (R3, R7). -/
  gapOpen : Bool
  queue : List Frame
  /-- The held PUBLISH place outside the queue (R17). -/
  held : Option Frame
  /-- The frame being received was broken after its length character (R5). -/
  rxBroken : Bool
  /-- The station drives the verdict slot dominant (R11). -/
  driving : Bool
  rxHeld : Option HeldFrame
  /-- Entry s is PRESENT while its silence timer runs, `some` of the ms left, and ABSENT while it is stopped (R20). -/
  roster : Vector (Option Nat) 16
  delivered : Nat
  spoiled : Nat
  runt : Nat
  broken : Nat
  /-- The DUPLICATE_STATION suppression timer (R10), in ms left. -/
  dupTimer : Option Nat
  deriving DecidableEq, Repr

/-! ## The publication unit -/

/-- A publish set: its items in the order of the list, and its period (R26). -/
structure PublishSet where
  items : List Byte
  period : Nat
  deriving DecidableEq, Repr

/-- The publishing half of the publication unit (R26 to R28). -/
structure PublishUnit where
  current : PublishSet
  pendingSet : Option PublishSet
  timer : Option Nat
  deriving DecidableEq, Repr

/-- The mirror states, in the order of R29. -/
inductive MirrorState where
  | never | fresh | stale
  deriving DecidableEq, Repr

/-- A used entry of the listen table (R29). Its use count is `State.useCount`, read from the consumers that name it (R37). -/
structure ListenEntry where
  source : BitVec 4
  item : Byte
  limit : Nat
  value : Word
  state : MirrorState
  /-- ms since the value was last taken; running only while FRESH. -/
  age : Option Nat
  deriving DecidableEq, Repr

/-! ## Motor channels -/

/-- The channel kinds (R58). -/
inductive ChanKind where
  | encoded | plain
  deriving DecidableEq, Repr

/-- The source of a follow record (R58). Sensor port p is carried as p - 1. -/
inductive FollowSource where
  | localChan (c : Fin 4)
  | mirror (k : Fin 16)
  | sensor (p : Fin 4) (n : Nat)
  deriving DecidableEq, Repr

/-- The follow record (R58). -/
structure FollowRec where
  source : FollowSource
  num : Int
  den : Nat
  offset : Word
  deriving DecidableEq, Repr

/-- A channel's mode with the setpoint the mode carries (R58). -/
inductive ChanMode where
  | coast
  | brake
  | openDrive (dset : Int)
  | speed (set : Int)
  | position (goal : Word)
  | hold (goal : Word)
  | follow (rec : FollowRec) (goal : Word)
  deriving DecidableEq, Repr

/-- The nine parameters of a channel (R59). -/
structure Params where
  kp : Nat
  ki : Nat
  kx : Nat
  vmax : Nat
  acc : Nat
  limit : Nat
  ilim : Nat
  stallTime : Nat
  tolerance : Nat
  deriving DecidableEq, Repr

/-- The direction of a bridge (R92). -/
inductive Dir where
  | forward | reverse
  deriving DecidableEq, Repr

/-- What the bridge does for a whole PWM period (R95). -/
inductive BridgePattern where
  | allOff
  | lowSides
  /-- The diagonal of the direction for the first `ticks` ticks, then both low sides. -/
  | drive (dir : Dir) (ticks : Nat)
  deriving DecidableEq, Repr

/-- A motor channel's record (R58), with the levels of its encoder lines and its bridge pattern (R69, R95). -/
structure Channel where
  kind : ChanKind
  mode : ChanMode
  params : Params
  pendingParams : Option Params
  haltFlag : Bool
  /-- The set of watch indices that hold the channel, watch k in bit k (R73). -/
  tripHolders : BitVec 8
  position : Word
  /-- The positions of the 8 most recent measure stages, oldest first (R79). -/
  history : Vector Word 8
  speed : Int
  tc : Word
  tf : Nat
  v : Int
  ref : Int
  integ : Int
  leff : Nat
  duty : Int
  nextC : Nat
  nextDir : Dir
  runC : Nat
  runDir : Dir
  bridge : BridgePattern
  settle : Nat
  moveDone : Bool
  lapse : Bool
  stall : Nat
  glitch : Nat
  /-- The levels of encoder lines 1 and 2 as last seen: the counter's reference state (R69). -/
  line1 : Bool
  line2 : Bool
  deriving DecidableEq, Repr

/-! ## Sensor ports -/

/-- The port states, in the order of R175. -/
inductive PortState where
  | empty | analog | syncing | describing | switching | streaming
  deriving DecidableEq, Repr

/-- The detect bands (R97). -/
inductive Band where
  | empty | generic | light | touch | smart
  deriving DecidableEq, Repr

/-- The sensor rates (R102). -/
inductive SensorRate where
  | r2400 | r9600 | r19200 | r57600 | r115200
  deriving DecidableEq, Repr

/-- The value formats of a mode (R106). -/
inductive Format where
  | s8 | s16 | s32
  deriving DecidableEq, Repr

/-- One mode of a descriptor (R106). -/
structure ModeDesc where
  count : Nat
  format : Format
  scale : Int
  deriving DecidableEq, Repr

/-- A smart sensor's descriptor (R106). -/
structure Descriptor where
  typeCode : Byte
  modes : List ModeDesc
  deriving DecidableEq, Repr

/-- The reading record (R112). -/
structure Reading where
  valid : Bool
  mode : Nat
  values : List Word
  age : Nat
  deriving DecidableEq, Repr

/-- The snapshot record (R113). -/
structure Snapshot where
  valid : Bool
  mode : Nat
  values : List Word
  time : Word
  deriving DecidableEq, Repr

/-- What a port sends on its transmit line (R102, R104). -/
inductive SensorTx where
  | acknowledge
  | select (mode : Nat)
  | nudge
  deriving DecidableEq, Repr

/-- A mode switch in progress (R109, R110): the identification switch has no old mode. -/
structure Switch where
  oldMode : Option Nat
  newMode : Nat
  deriving DecidableEq, Repr

/-- A sensor port (R97 to R115). -/
structure Port where
  state : PortState
  settled : Band
  candidate : Option Band
  debounce : Nat
  ready : Bool
  /-- The most recent analog samples, oldest first, at most 8 (R99). -/
  window : List Nat
  /-- A rate measurement in progress, with the ms left of its 5 ms limit (R101). -/
  measuring : Option Nat
  /-- The rate of the run of one measurement, if there is a run (R102). -/
  run : Option SensorRate
  fixedRate : Option SensorRate
  descriptor : Option Descriptor
  currentMode : Option Nat
  switch : Option Switch
  reading : Reading
  snapshot : Snapshot
  totalBad : Nat
  consecBad : Nat
  descTimer : Option Nat
  silenceTimer : Option Nat
  switchTimer : Option Nat
  nudgeTimer : Option Nat
  /-- What is being sent (the head) and what waits behind it; empty means the line is idle, high (R104). -/
  tx : List SensorTx
  deriving DecidableEq, Repr

/-! ## The watch unit -/

/-- The states of a watch that has a subject (R116). -/
inductive WatchState where
  | armed | fired | tripped
  deriving DecidableEq, Repr

/-- The subject of a watch (R116). -/
inductive Subject where
  | sensor (p : Fin 4) (n : Nat)
  | mirror (k : Fin 16)
  | motorPosition (c : Fin 4)
  | motorSpeed (c : Fin 4)
  | supply
  deriving DecidableEq, Repr

/-- The condition of a watch (R120). -/
inductive Condition where
  | above | below | outside | inside
  deriving DecidableEq, Repr

/-- The action of a watch (R116). The channel set has channel A in bit 0. -/
inductive WatchAction where
  | notify
  | sendCue (mask cue : Byte)
  | tripBrake (set : BitVec 4)
  | tripCoast (set : BitVec 4)
  | stopSound
  | fault
  deriving DecidableEq, Repr

/-- A watch that is not DISARMED (R116): a DISARMED entry of the table is `none`. -/
structure Watch where
  state : WatchState
  subject : Subject
  condition : Condition
  lo : Word
  hi : Word
  hysteresis : Half
  action : WatchAction
  lastEval : Bool
  deriving DecidableEq, Repr

/-! ## The cue unit -/

/-- The motor setpoint record of a cue entry, which is also what an immediate request asks for (R41). -/
inductive MotorSetpoint where
  | coast
  | brake
  | openDrive (dset : Int)
  | speed (set : Int)
  | position (goal : Word)
  | hold
  | follow (rec : FollowRec)
  deriving DecidableEq, Repr

/-- The argument of STOP_SOUND (R132). -/
inductive StopArg where
  | now | atEnd
  deriving DecidableEq, Repr

/-- The action of a cue entry with its target and argument record (R41). -/
inductive CueAction where
  | motor (c : Fin 4) (sp : MotorSetpoint)
  | startSound
  | stopSound (a : StopArg)
  | snapshot
  | rearmAll
  deriving DecidableEq, Repr

/-- An entry of the cue table (R41). -/
structure CueEntry where
  cue : Nat
  action : CueAction
  keep : Bool
  deriving DecidableEq, Repr

/-- The cue unit (R39, R41) with the station clock it keeps (R55). -/
structure CueUnit where
  membership : Byte
  table : List CueEntry
  clock : Word
  deriving DecidableEq, Repr

/-! ## The sound unit -/

/-- The waveforms (R126). -/
inductive Waveform where
  | square | triangle
  deriving DecidableEq, Repr

/-- A note record (R126). -/
structure Note where
  frequency : Nat
  duration : Nat
  volume : Nat
  waveform : Waveform
  gap : Nat
  deriving DecidableEq, Repr

/-- The player states (R129). -/
inductive Player where
  | stopped | playing | gapping
  deriving DecidableEq, Repr

/-- The sound unit (R126 to R141). -/
structure Sound where
  queue : List Note
  player : Player
  current : Option Note
  /-- Samples left in the present note or gap (R129). -/
  count : Nat
  stopAtEnd : Bool
  phase : BitVec 24
  master : Nat
  mark : Nat
  arm : Bool
  nextCompare : Nat
  runCompare : Nat
  deriving DecidableEq, Repr

/-! ## The supply monitor and the fault unit -/

/-- The supply states, in the order of R172. -/
inductive SupplyState where
  | normal | sag | brownout
  deriving DecidableEq, Repr

/-- The supply monitor (R142 to R145). Vbat is `Supply.vbat`, read from the window. Its two conditions stand in the fault
source table, as last told. -/
structure Supply where
  /-- The 16 most recent battery samples in mV, oldest first. -/
  window : Vector Nat 16
  state : SupplyState
  temperature : Int
  deriving DecidableEq, Repr

/-- A halt style (R146). -/
inductive Style where
  | brake | coast
  deriving DecidableEq, Repr

/-- The reactions, in the order of their codes (R172). -/
inductive Reaction where
  | none | report | channelStop | localHalt | groupHalt
  deriving DecidableEq, Repr

/-- The halt groups of a source (R146). -/
inductive HaltGroups where
  | membership
  | mask (m : Byte)
  deriving DecidableEq, Repr

/-- The states of a fault source (R146). -/
inductive SourceState where
  | inactive | grace | latched
  deriving DecidableEq, Repr

/-- One of the eight fault sources (R146). -/
structure FaultSource where
  reaction : Reaction
  grace : Nat
  style : Style
  groups : HaltGroups
  state : SourceState
  /-- The condition as last told by the source's owner. -/
  condition : Bool
  /-- ms spent in GRACE; running only there. -/
  timer : Option Nat
  deriving DecidableEq, Repr

/-- What the HALT request that latched MANUAL asked for (R146, R152). -/
structure ManualHalt where
  reaction : Reaction
  style : Style
  groups : HaltGroups
  deriving DecidableEq, Repr

/-- The remote-halt record (R151). -/
structure RemoteHalt where
  station : BitVec 4
  cause : Byte
  deriving DecidableEq, Repr

/-- The fault unit (R146 to R154). -/
structure FaultUnit where
  /-- Sources 0 to 7 by source code. -/
  sources : Vector FaultSource 8
  /-- MANUAL: LATCHED with the request's settings, or `none` for INACTIVE. -/
  manual : Option ManualHalt
  remoteStyle : Style
  remote : Option RemoteHalt
  halted : Bool
  keepPeriod : Nat
  keepTimer : Option Nat
  deriving DecidableEq, Repr

/-! ## The tablet port -/

/-- The receive state with the partial message it holds (R156): the length byte taken, then the body bytes so far. -/
inductive TabletRx where
  | hunt
  | length
  | body (len : Byte) (got : List Byte)
  | check (len : Byte) (got : List Byte)
  deriving DecidableEq, Repr

/-- The status of a relay entry (R161). -/
inductive RelayStatus where
  | queued | sent
  deriving DecidableEq, Repr

/-- A relay entry (R161). -/
structure Relay where
  /-- The identity of its COMMAND frame. -/
  id : Nat
  tag : Byte
  dest : BitVec 4
  deadline : Nat
  status : RelayStatus
  deriving DecidableEq, Repr

/-- The report route (R165). -/
inductive Route where
  | none
  | self
  | station (s : BitVec 4)
  deriving DecidableEq, Repr

/-- The tablet port (R155 to R171). -/
structure Tablet where
  linkUp : Bool
  rx : TabletRx
  badCount : Nat
  relays : List Relay
  /-- The model's own counter: the identity the next relay entry gets. -/
  nextRelay : Nat
  /-- The bodies of the records in the report queue, oldest first (R167, R174). -/
  reports : List (List Byte)
  lost : Nat
  route : Route
  mask : Word
  /-- A RESTART that waits for its answer (R170). -/
  restart : Option ReqCtx
  deriving DecidableEq, Repr

/-! ## The whole block -/

/-- The whole state: the ten blocks, the reset, the strap pins, and the queue of waiting commands. -/
structure State where
  /-- A cold reset or a RESTART is being taken: its end has not come (R14, R76). -/
  inReset : Bool
  /-- The levels of the strap pins when last read (R178). -/
  straps : Straps
  link : Link
  publish : PublishUnit
  listen : Vector (Option ListenEntry) 16
  cue : CueUnit
  chans : Vector Channel 4
  ports : Vector Port 4
  watches : Vector (Option Watch) 8
  sound : Sound
  supply : Supply
  fault : FaultUnit
  tablet : Tablet
  /-- The commands that wait, first in, first out. -/
  pending : List Instr
  deriving DecidableEq, Repr

/-! ## Reset values -/

/-- The straps with every pin unconnected: the pull-ups make each read 1 (R178). DESIGN CHOICE as the levels before the
first read (log entry 1), unsafe. -/
def Straps.unconnected : Straps := { stn := 15, rate := 3 }

/-- R23: the link controller during a reset, the own number and rate from the straps last read. -/
def Link.reset (p : Straps) : Link where
  own := p.stn
  rate := p.rate
  state := .offline
  gapOpen := false
  queue := []
  held := none
  rxBroken := false
  driving := false
  rxHeld := none
  roster := Vector.replicate 16 none
  delivered := 0
  spoiled := 0
  runt := 0
  broken := 0
  dupTimer := none

/-- R28: an empty current set with period 0, the timer stopped, no pending set. -/
def PublishUnit.reset : PublishUnit where
  current := { items := [], period := 0 }
  pendingSet := none
  timer := none

/-- R39, R41, R55: membership group 1 alone, an empty table, the station clock at 0. -/
def CueUnit.reset : CueUnit where
  membership := 0x01
  table := []
  clock := 0

/-- The defaults of R59. -/
def Params.defaults : Params where
  kp := 600
  ki := 40
  kx := 64
  vmax := 1600
  acc := 20
  limit := 1000
  ilim := 1500
  stallTime := 1000
  tolerance := 4

/-- R76, R96, with the levels its encoder lines have. -/
def Channel.reset (line1 line2 : Bool) : Channel where
  kind := .encoded
  mode := .coast
  params := Params.defaults
  pendingParams := none
  haltFlag := false
  tripHolders := 0
  position := 0
  history := Vector.replicate 8 0
  speed := 0
  tc := 0
  tf := 0
  v := 0
  ref := 0
  integ := 0
  leff := 1000
  duty := 0
  nextC := 0
  nextDir := .forward
  runC := 0
  runDir := .forward
  bridge := .allOff
  settle := 0
  moveDone := false
  lapse := false
  stall := 0
  glitch := 0
  line1 := line1
  line2 := line2

/-- R115. -/
def Port.reset : Port where
  state := .empty
  settled := .empty
  candidate := none
  debounce := 0
  ready := false
  window := []
  measuring := none
  run := none
  fixedRate := none
  descriptor := none
  currentMode := none
  switch := none
  reading := { valid := false, mode := 0, values := [], age := 0 }
  snapshot := { valid := false, mode := 0, values := [], time := 0 }
  totalBad := 0
  consecBad := 0
  descTimer := none
  silenceTimer := none
  switchTimer := none
  nudgeTimer := none
  tx := []

/-- R141. -/
def Sound.reset : Sound where
  queue := []
  player := .stopped
  current := none
  count := 0
  stopAtEnd := false
  phase := 0
  master := 15
  mark := 4
  arm := true
  nextCompare := 250
  runCompare := 250

/-- R143: the state is NORMAL when the first sample is taken. DESIGN CHOICE: the window and the temperature hold 0 until
the first sample and reading at the end of the reset (log entry 2), unsafe. -/
def Supply.reset : Supply where
  window := Vector.replicate 16 0
  state := .normal
  temperature := 0

/-- An INACTIVE source with the settings given (R146). -/
def FaultSource.inactive (r : Reaction) (grace : Nat) (style : Style) : FaultSource where
  reaction := r
  grace := grace
  style := style
  groups := .membership
  state := .inactive
  condition := false
  timer := none

/-- The defaults of R146; R149 (RUNNING), R151 (no record) and R154 (keepalive off). -/
def FaultUnit.reset : FaultUnit where
  sources := #v[.inactive .channelStop 0 .brake, .inactive .channelStop 0 .brake, .inactive .channelStop 0 .brake,
    .inactive .channelStop 0 .brake, .inactive .localHalt 500 .coast, .inactive .report 2000 .coast,
    .inactive .localHalt 0 .brake, .inactive .localHalt 0 .brake]
  manual := none
  remoteStyle := .brake
  remote := none
  halted := false
  keepPeriod := 0
  keepTimer := none

/-- R165: every kind's bit is set, kinds 0 to 28. -/
def eventMaskAll : Word := 0x1FFFFFFF#32

/-- R171. -/
def Tablet.reset : Tablet where
  linkUp := false
  rx := .hunt
  badCount := 0
  relays := []
  nextRelay := 0
  reports := []
  lost := 0
  route := .none
  mask := eventMaskAll
  restart := none

/-- The machine right after a cold reset is taken: every block at its reset values, the reset not yet ended (RESET_END ends
it). -/
def State.reset : State where
  inReset := true
  straps := Straps.unconnected
  link := Link.reset Straps.unconnected
  publish := PublishUnit.reset
  listen := Vector.replicate 16 none
  cue := CueUnit.reset
  chans := Vector.replicate 4 (Channel.reset false false)
  ports := Vector.replicate 4 Port.reset
  watches := Vector.replicate 8 none
  sound := Sound.reset
  supply := Supply.reset
  fault := FaultUnit.reset
  tablet := Tablet.reset
  pending := []

end Sys2Proof.Machine
end

