-- ==== Sys2Proof/Machine/Flags.lean ====
section
/-! DEFINITION. The arithmetic the meanings share: clamping and rounding as the Conventions give them, saturating counts, the
two check bytes, timers. -/

namespace Sys2Proof.Machine

/-- Clamp x to lo..hi (Conventions). -/
def clampI (lo hi x : Int) : Int := if x < lo then lo else if hi < x then hi else x

/-- Clamp x to ±m (Conventions). -/
def clampAbs (m : Nat) (x : Int) : Int := clampI (-(m : Int)) m x

/-- Clamp a natural number to lo..hi. -/
def clampN (lo hi x : Nat) : Nat := if x < lo then lo else if hi < x then hi else x

/-- A count that stays at its largest value once it reaches it. -/
def satAdd (cap a b : Nat) : Nat := min cap (a + b)

/-- The wrapped difference of a and b, as a signed number (Conventions). -/
def wrapDiff (a b : Word) : Int := (a - b).toInt

/-- A word of 32 bits from a number, wrapping. -/
def toWord (x : Int) : Word := BitVec.ofInt 32 x

/-- The low byte of a number. -/
def toByte (n : Nat) : Byte := BitVec.ofNat 8 n

/-- The low two bytes of a number, most significant first. -/
def nat16 (n : Nat) : List Byte := halfBytes (BitVec.ofNat 16 n)

/-- A mark that is yes or no, 1 for yes (R172). -/
def boolByte (b : Bool) : Byte := if b then 1 else 0

/-- One bit of the CRC-8 with generator x^8 + x^5 + x^4 + 1 (R6). -/
def crcBit (c : Byte) : Byte := if c.msb then (c <<< 1) ^^^ 0x31#8 else c <<< 1

/-- One byte of the CRC-8, most significant bit first (R6). -/
def crcByte (c b : Byte) : Byte :=
  crcBit (crcBit (crcBit (crcBit (crcBit (crcBit (crcBit (crcBit (c ^^^ b))))))))

/-- The CRC-8 of the link's check character and of tablet messages: initial value 0x00 (R6, R156). -/
def crc8 (bs : List Byte) : Byte := bs.foldl crcByte 0

/-- The check byte of a sensor message: 0xFF exclusive-ORed with the header and the body (R103, R177). -/
def sensorCheck (bs : List Byte) : Byte := bs.foldl (· ^^^ ·) 0xFF

/-- One millisecond off a running timer. -/
def countDown (t : Option Nat) : Option Nat := t.map (· - 1)

/-- One millisecond onto a running timer. -/
def countUp (t : Option Nat) : Option Nat := t.map (· + 1)

/-- A running timer whose count has come to its end: no ms are left. A stopped timer has none to run out (log entry 7). -/
def ranOut (t : Option Nat) : Bool := t == some 0

/-- Work done for each element of a list in turn, each seeing the state the ones before it left. -/
def forEach {α : Type} (l : List α) (f : α → State → State) (s : State) : State :=
  l.foldl (fun s a => f a s) s

/-- Channels A to D in order; also ports 1 to 4. -/
def all4 : List (Fin 4) := [0, 1, 2, 3]

/-- Watches 0 to 7 in index order; also the eight fault sources. -/
def all8 : List (Fin 8) := [0, 1, 2, 3, 4, 5, 6, 7]

/-- Listen entries 0 to 15 in index order; also station numbers. -/
def all16 : List (Fin 16) := [0, 1, 2, 3, 4, 5, 6, 7, 8, 9, 10, 11, 12, 13, 14, 15]

/-- A function applied to every entry of a vector, in a form that the kernel evaluates. -/
def mapEach {α β : Type} {n : Nat} (f : α → β) (v : Vector α n) : Vector β n := Vector.ofFn fun i => f (v.get i)

/-- A vector that drops its oldest entry and takes a newest one. -/
def shiftIn {α : Type} {n : Nat} (v : Vector α n) (x : α) : Vector α n :=
  Vector.ofFn fun i => if h : i.val + 1 < n then v[i.val + 1] else x

end Sys2Proof.Machine
end

