-- ==== Sys2Proof/Machine/Operands.lean ====
section
/-! DEFINITION. The code tables of R172: what each raw byte of a request names, and the codes of what answers and events
carry. -/

namespace Sys2Proof.Machine

/-! ## Result codes and event kinds (R172) -/

/-- The result codes, in code order. -/
inductive Result where
  | ok | accepted | limited | badArg | badRequest | busy | inUse | tableFull | noEncoder | faulted | tripped | notReady
  | conditionTrue | stillActive | noRoute | linkBusy | linkSpoiled | noAnswer
  deriving DecidableEq, Repr

/-- The number of a result code. -/
def Result.code : Result → Byte
  | .ok => 0
  | .accepted => 1
  | .limited => 2
  | .badArg => 3
  | .badRequest => 4
  | .busy => 5
  | .inUse => 6
  | .tableFull => 7
  | .noEncoder => 8
  | .faulted => 9
  | .tripped => 10
  | .notReady => 11
  | .conditionTrue => 12
  | .stillActive => 13
  | .noRoute => 14
  | .linkBusy => 15
  | .linkSpoiled => 16
  | .noAnswer => 17

/-- LIMITED where something was clamped, OK otherwise. -/
def okOr (limited : Bool) : Result := if limited then .limited else .ok

/-- The event kinds, in code order. -/
inductive EventKind where
  | duplicateStation | linkSpoiled | lineStuck | stationFound | stationLost
  | mirrorFresh | mirrorStale | cueTaken | cueEntryRefused | moveDone | sourceStale
  | sensorReady | sensorIdFailed | sensorLost | modeSet | modeFailed
  | watchFired | watchTripped | watchCueLost | soundDone | soundLow
  | supplySag | supplyNormal | brownoutEnd
  | faultGrace | faultEased | faultLatched | remoteHalt | faultCleared
  deriving DecidableEq, Repr

/-- The code of an event kind. -/
def EventKind.code : EventKind → Nat
  | .duplicateStation => 0
  | .linkSpoiled => 1
  | .lineStuck => 2
  | .stationFound => 3
  | .stationLost => 4
  | .mirrorFresh => 5
  | .mirrorStale => 6
  | .cueTaken => 7
  | .cueEntryRefused => 8
  | .moveDone => 9
  | .sourceStale => 10
  | .sensorReady => 11
  | .sensorIdFailed => 12
  | .sensorLost => 13
  | .modeSet => 14
  | .modeFailed => 15
  | .watchFired => 16
  | .watchTripped => 17
  | .watchCueLost => 18
  | .soundDone => 19
  | .soundLow => 20
  | .supplySag => 21
  | .supplyNormal => 22
  | .brownoutEnd => 23
  | .faultGrace => 24
  | .faultEased => 25
  | .faultLatched => 26
  | .remoteHalt => 27
  | .faultCleared => 28

/-! ## Argument codes -/

/-- A channel: A 0 to D 3. -/
def channelOf (b : Byte) : Option (Fin 4) := if h : b.toNat < 4 then some ⟨b.toNat, h⟩ else none

/-- A port 1 to 4, as its place 0 to 3. -/
def portOf (b : Byte) : Option (Fin 4) :=
  if h : 1 ≤ b.toNat ∧ b.toNat ≤ 4 then some ⟨b.toNat - 1, by omega⟩ else none

/-- The number of a port. -/
def portNumber (p : Fin 4) : Byte := toByte (p.val + 1)

/-- A watch index 0 to 7. -/
def watchOf (b : Byte) : Option (Fin 8) := if h : b.toNat < 8 then some ⟨b.toNat, h⟩ else none

/-- A listen index 0 to 15. -/
def listenOf (b : Byte) : Option (Fin 16) := if h : b.toNat < 16 then some ⟨b.toNat, h⟩ else none

/-- A channel kind: ENCODED 0, PLAIN 1. -/
def kindOf (b : Byte) : Option ChanKind :=
  match b.toNat with
  | 0 => some .encoded
  | 1 => some .plain
  | _ => none

def ChanKind.code : ChanKind → Byte
  | .encoded => 0
  | .plain => 1

/-- The code of a motor mode. -/
def ChanMode.code : ChanMode → Byte
  | .coast => 0
  | .brake => 1
  | .openDrive _ => 2
  | .speed _ => 3
  | .position _ => 4
  | .hold _ => 5
  | .follow _ _ => 6

/-- The setpoint value in the answer of SET_MOTOR: 0 for a mode that carries none (R172). -/
def ChanMode.setpoint : ChanMode → Word
  | .coast => 0
  | .brake => 0
  | .openDrive d => toWord d
  | .speed v => toWord v
  | .position g => g
  | .hold g => g
  | .follow _ g => g

/-- The code of the motor mode a setpoint record enters. -/
def MotorSetpoint.code : MotorSetpoint → Byte
  | .coast => 0
  | .brake => 1
  | .openDrive _ => 2
  | .speed _ => 3
  | .position _ => 4
  | .hold => 5
  | .follow _ => 6

/-- The LIST_CUES action code. -/
def CueAction.code : CueAction → Byte
  | .motor _ sp => sp.code
  | .startSound => 8
  | .stopSound .now => 9
  | .stopSound .atEnd => 10
  | .snapshot => 11
  | .rearmAll => 12

/-- The target code of an entry: channels 0 to 3, SOUND 4, SENSORS 5, WATCHES 6 (R41). -/
def CueAction.target : CueAction → Nat
  | .motor c _ => c.val
  | .startSound => 4
  | .stopSound _ => 4
  | .snapshot => 5
  | .rearmAll => 6

/-- A stop argument: NOW 0, AT_END 1. -/
def stopArgOf (b : Byte) : Option StopArg :=
  match b.toNat with
  | 0 => some .now
  | 1 => some .atEnd
  | _ => none

/-- A waveform: SQUARE 0, TRIANGLE 1. -/
def waveformOf (b : Byte) : Option Waveform :=
  match b.toNat with
  | 0 => some .square
  | 1 => some .triangle
  | _ => none

/-- A watch condition: ABOVE 0, BELOW 1, OUTSIDE 2, INSIDE 3. -/
def conditionOf (b : Byte) : Option Condition :=
  match b.toNat with
  | 0 => some .above
  | 1 => some .below
  | 2 => some .outside
  | 3 => some .inside
  | _ => none

/-- A watch subject with the bytes that name it; the value-number byte is read only for SENSOR (R117, R176). -/
def subjectOf (kind which n : Byte) : Option Subject :=
  match kind.toNat with
  | 1 => match portOf which with
    | some p => if n.toNat ≤ 3 then some (.sensor p n.toNat) else none
    | none => none
  | 2 => (listenOf which).map .mirror
  | 3 => (channelOf which).map .motorPosition
  | 4 => (channelOf which).map .motorSpeed
  | 5 => some .supply
  | _ => none

/-- A watch action with its bytes; bits 4 to 7 of a channel set are ignored (R117, R172, R176). -/
def actionOf (kind mask cue : Byte) : Option WatchAction :=
  match kind.toNat with
  | 0 => some .notify
  | 1 => if 1 ≤ cue.toNat ∧ cue.toNat ≤ 15 then some (.sendCue mask cue) else none
  | 2 => if mask.extractLsb' 0 4 = 0 then none else some (.tripBrake (mask.extractLsb' 0 4))
  | 3 => if mask.extractLsb' 0 4 = 0 then none else some (.tripCoast (mask.extractLsb' 0 4))
  | 4 => some .stopSound
  | 5 => some .fault
  | _ => none

/-- A halt style: BRAKE 0, COAST 1. -/
def styleOf (b : Byte) : Option Style :=
  match b.toNat with
  | 0 => some .brake
  | 1 => some .coast
  | _ => none

def Style.code : Style → Byte
  | .brake => 0
  | .coast => 1

/-- A reaction, by its code. -/
def reactionOf (b : Byte) : Option Reaction :=
  match b.toNat with
  | 0 => some .none
  | 1 => some .report
  | 2 => some .channelStop
  | 3 => some .localHalt
  | 4 => some .groupHalt
  | _ => none

def Reaction.code : Reaction → Byte
  | .none => 0
  | .report => 1
  | .channelStop => 2
  | .localHalt => 3
  | .groupHalt => 4

/-- Halt groups: MEMBERSHIP 0, or mask 1 with its mask byte (R172). -/
def groupsOf (form mask : Byte) : Option HaltGroups :=
  match form.toNat with
  | 0 => some .membership
  | 1 => some (.mask mask)
  | _ => none

/-- A sensor format: S8 0, S16 1, S32 2. -/
def formatOf (b : Byte) : Option Format :=
  match b.toNat with
  | 0 => some .s8
  | 1 => some .s16
  | 2 => some .s32
  | _ => none

def Format.code : Format → Byte
  | .s8 => 0
  | .s16 => 1
  | .s32 => 2

/-- Bytes of one value in a format (R106). -/
def Format.width : Format → Nat
  | .s8 => 1
  | .s16 => 2
  | .s32 => 4

def LinkState.code : LinkState → Byte
  | .offline => 0
  | .listening => 1
  | .idle => 2
  | .receiving => 3
  | .sending => 4
  | .verdict => 5
  | .stuck => 6

def MirrorState.code : MirrorState → Byte
  | .never => 0
  | .fresh => 1
  | .stale => 2

def SupplyState.code : SupplyState → Byte
  | .normal => 0
  | .sag => 1
  | .brownout => 2

def SourceState.code : SourceState → Byte
  | .inactive => 0
  | .grace => 1
  | .latched => 2

def PortState.code : PortState → Byte
  | .empty => 0
  | .analog => 1
  | .syncing => 2
  | .describing => 3
  | .switching => 4
  | .streaming => 5

def Player.code : Player → Byte
  | .stopped => 0
  | .playing => 1
  | .gapping => 2

/-- The code of a watch's state: DISARMED 0, ARMED 1, FIRED 2, TRIPPED 3 (R175). -/
def watchCode : Option Watch → Byte
  | none => 0
  | some w => match w.state with
    | .armed => 1
    | .fired => 2
    | .tripped => 3

def SensorRate.code : SensorRate → Byte
  | .r2400 => 1
  | .r9600 => 2
  | .r19200 => 3
  | .r57600 => 4
  | .r115200 => 5

/-- Bits per second of a sensor rate (R102). -/
def SensorRate.bps : SensorRate → Nat
  | .r2400 => 2400
  | .r9600 => 9600
  | .r19200 => 19200
  | .r57600 => 57600
  | .r115200 => 115200

/-- The passive type code of a band (R99). -/
def Band.typeCode : Band → Byte
  | .generic => 1
  | .light => 2
  | .touch => 3
  | .empty => 0
  | .smart => 0

/-- An item code is valid when its kind is 1 to 7 and its index lies in the kind's range (R24). -/
def validItem (code : Byte) : Bool :=
  let kind := code.toNat / 16
  let index := code.toNat % 16
  match kind with
  | 1 => decide (index < 4)
  | 2 => decide (index < 4)
  | 3 => true
  | 4 => true
  | 5 => decide (index = 0)
  | 6 => decide (index = 0)
  | 7 => decide (index = 0)
  | _ => false

/-- The follow source of SET_FOLLOW's bytes, without the checks that need the state (R64); the value-number byte is read
only for SENSOR (R176). -/
def followSourceOf (kind which n : Byte) : Option FollowSource :=
  match kind.toNat with
  | 0 => (channelOf which).map .localChan
  | 1 => (listenOf which).map .mirror
  | 2 => match portOf which with
    | some p => if n.toNat ≤ 3 then some (.sensor p n.toNat) else none
    | none => none
  | _ => none

end Sys2Proof.Machine
end

