-- ==== Sys2Proof/Machine/Ops.lean ====
section
/-! DEFINITION. The named operations every unit shares: access to the state's tables, the report queue, offers to the send
queue with the start of contention, events and answers. -/

namespace Sys2Proof.Machine

/-! ## Access to the tables -/

def State.chan (s : State) (c : Fin 4) : Channel := s.chans.get c

def State.setChan (s : State) (c : Fin 4) (x : Channel) : State := { s with chans := s.chans.set c.val x c.isLt }

def State.modChan (s : State) (c : Fin 4) (f : Channel → Channel) : State := s.setChan c (f (s.chan c))

def State.port (s : State) (p : Fin 4) : Port := s.ports.get p

def State.setPort (s : State) (p : Fin 4) (x : Port) : State := { s with ports := s.ports.set p.val x p.isLt }

def State.modPort (s : State) (p : Fin 4) (f : Port → Port) : State := s.setPort p (f (s.port p))

def State.watch (s : State) (k : Fin 8) : Option Watch := s.watches.get k

def State.setWatch (s : State) (k : Fin 8) (w : Option Watch) : State :=
  { s with watches := s.watches.set k.val w k.isLt }

def State.entry (s : State) (k : Fin 16) : Option ListenEntry := s.listen.get k

def State.setEntry (s : State) (k : Fin 16) (e : Option ListenEntry) : State :=
  { s with listen := s.listen.set k.val e k.isLt }

def State.source (s : State) (k : Fin 8) : FaultSource := s.fault.sources.get k

def State.setSource (s : State) (k : Fin 8) (x : FaultSource) : State :=
  { s with fault := { s.fault with sources := s.fault.sources.set k.val x k.isLt } }

/-- The own number as a byte. -/
def State.ownByte (s : State) : Byte := s.link.own.setWidth 8

/-- A station whose straps read 0 or 15 (R22). -/
def State.standalone (s : State) : Bool := s.link.own == 0 || s.link.own == 15

/-- The filtered battery voltage: the sum of the window divided by 16, rounded down (R142). -/
def Supply.vbat (x : Supply) : Nat := x.window.toList.sum / 16

/-- The roster's silence timer of a station. -/
def Link.present (l : Link) (st : BitVec 4) : Option Nat := l.roster.get st.toFin

def Link.setRoster (l : Link) (st : BitVec 4) (t : Option Nat) : Link :=
  { l with roster := l.roster.set st.toNat t st.isLt }

/-- Whether a channel is a consumer of listen entry k (R37). -/
def Channel.names (ch : Channel) (k : Fin 16) : Bool :=
  match ch.mode with
  | .follow r _ => r.source == .mirror k
  | _ => false

/-- Whether a watch is a consumer of listen entry k, whatever its state (R37). -/
def watchNames (w : Option Watch) (k : Fin 16) : Bool :=
  match w with
  | some w => w.subject == .mirror k
  | none => false

/-- The use count of listen entry k: the number of consumers that name it at this moment (R37). -/
def State.useCount (s : State) (k : Fin 16) : Nat :=
  (all4.filter fun c => (s.chan c).names k).length + (all8.filter fun w => watchNames (s.watch w) k).length

/-! ## The serial lines (R102, R104, R155) -/

/-- The ten levels of a byte in order on a serial line, true for high: start bit, data bits with the least significant
first, stop bit; there is no parity bit (R102, R155). -/
def byteLevels (b : LineByte) : List Bool :=
  [false] ++ ([0, 1, 2, 3, 4, 5, 6, 7].map fun i => b.value.getLsbD i) ++ [!b.stopLow]

/-- A byte as a port sends it, its stop bit high. -/
def sentByte (v : Byte) : LineByte := { value := v, stopLow := false }

/-- What a port does with its transmit line: it leaves it idle, or sends bytes at a rate in bit/s, each byte following the one
before with no idle time (R104, R155, R157). -/
inductive SerialLine where
  | idle
  | sending (rate : Nat) (bytes : List LineByte)
  deriving DecidableEq, Repr

/-- The levels a port puts on its transmit line: high while it is idle (R155). -/
def SerialLine.levels : SerialLine → List Bool
  | .idle => [true]
  | .sending _ bytes => bytes.flatMap byteLevels

/-! ## The report queue (R167) -/

/-- Segments a record of n body bytes takes: its n + 2 held bytes in segments of 16. -/
def segments (n : Nat) : Nat := (n + 2 + 15) / 16

/-- Segments the queue's records take. -/
def usedSegments (reports : List (List Byte)) : Nat := (reports.map fun r => segments r.length).sum

/-- Free segments of the report queue, of 48. -/
def freeSegments (reports : List (List Byte)) : Nat := 48 - usedSegments reports

/-- Raise the lost count by n; it stays at 255 once it reaches that value. -/
def addLost (n : Nat) (s : State) : State :=
  { s with tablet := { s.tablet with lost := satAdd 255 s.tablet.lost n } }

/-- Place a record if at least `spare` segments would remain free after it; otherwise it is dropped, and the lost count rises
by one and by the count the record carried (R167). -/
def placeRecord (spare carried : Nat) (body : List Byte) (s : State) : State :=
  if segments body.length + spare ≤ freeSegments s.tablet.reports then
    { s with tablet := { s.tablet with reports := s.tablet.reports ++ [body] } }
  else addLost (carried + 1) s

/-- The body of an answer record (R174), its data cut to the 56 bytes of room (R159). -/
def answerBody (tag station : Byte) (r : Result) (data : List Byte) : List Byte :=
  [1, tag, station, r.code] ++ data.take 56

/-- The body of an event record (R174). -/
def eventBody (kind : Byte) (origin subject : Byte) (arg : Word) (lost : Nat) : List Byte :=
  [2, kind, origin, subject] ++ wordBytes arg ++ [toByte lost]

/-- Issue an answer record's body to SELF: placed if one segment would remain, discarded while LINK_UP is low (R167, R168). -/
def placeAnswer (body : List Byte) (s : State) : State :=
  if s.tablet.linkUp then placeRecord 1 0 body s else s

/-! ## The send queue (R16 to R18) -/

/-- The class and subkind bits of a frame's claim (R6). -/
def FrameOwner.classBits : FrameOwner → BitVec 2 × BitVec 2
  | .halt => (0, 0)
  | .cueRequest _ => (1, 0)
  | .cueWatch _ => (1, 0)
  | .command _ => (2, 0)
  | .answer => (2, 1)
  | .notice _ => (2, 2)
  | .publish => (3, 0)

/-- The claim character: class in bits 7 and 6, station in bits 5 to 2, subkind in bits 1 and 0 (R6). -/
def claimOf (cls : BitVec 2) (station : BitVec 4) (sub : BitVec 2) : Byte := cls ++ station ++ sub

/-- A new frame of this station: spoil count 0, waiting (R16). -/
def newFrame (own : BitVec 4) (owner : FrameOwner) (payload : List Byte) : Frame where
  owner := owner
  claim := claimOf owner.classBits.1 own owner.classBits.2
  payload := payload
  spoils := 0
  contending := false

def Frame.isHalt (f : Frame) : Bool := f.owner == .halt

def Frame.isPublish (f : Frame) : Bool := f.owner == .publish

/-- A waiting PUBLISH frame (R17). -/
def Frame.waitingPublish (f : Frame) : Bool := f.isPublish && !f.contending

/-- The queue has a place for a frame: a HALT frame below 8 frames, any other below 8 frames and 7 non-HALT frames (R18). -/
def roomFor (halt : Bool) (q : List Frame) : Bool :=
  decide (q.length < 8) && (halt || decide ((q.filter fun f => !f.isHalt).length < 7))

/-- The queue with the first waiting PUBLISH frame taken out. -/
def dropWaitingPublish (q : List Frame) : List Frame := q.eraseP Frame.waitingPublish

/-- The queue with the waiting PUBLISH frame replaced by a new one in its place and age (R17). -/
def replacePublish (f : Frame) (q : List Frame) : List Frame := q.map fun g => if g.waitingPublish then f else g

/-- What the send queue does with an offer: the link afterwards, or none for a refusal (R16 to R18). -/
def enqueue (f : Frame) (l : Link) : Option Link :=
  if f.isPublish then
    if l.queue.any fun g => g.isPublish && g.contending then some { l with held := some f }
    else if l.queue.any Frame.waitingPublish then some { l with queue := replacePublish f l.queue }
    else if roomFor false l.queue then some { l with queue := l.queue ++ [f] }
    else none
  else if roomFor f.isHalt l.queue then some { l with queue := l.queue ++ [f] }
  else if l.queue.any Frame.waitingPublish then some { l with queue := dropWaitingPublish l.queue ++ [f] }
  else none

/-- The smallest claim value in a queue, if it holds a frame. -/
def minClaim : List Frame → Option Nat
  | [] => none
  | f :: fs => match minClaim fs with
    | none => some f.claim.toNat
    | some m => some (min f.claim.toNat m)

/-- Put the oldest frame of claim value m in contention (R16). -/
def contendOldest (m : Nat) : List Frame → List Frame
  | [] => []
  | f :: fs => if f.claim.toNat = m then { f with contending := true } :: fs else f :: contendOldest m fs

/-- CLAIM_START (R7): in IDLE within a quiet gap whose end has been met, a queued frame begins its claim character. -/
def claimStart (l : Link) : Link :=
  match l.state, l.gapOpen, minClaim l.queue with
  | .idle, true, some m => { l with state := .sending, gapOpen := false, queue := contendOldest m l.queue }
  | _, _, _ => l

/-- Offer a frame to the link controller: the state after, and whether it was taken. A standalone station keeps no frame
(R22). -/
def offer (owner : FrameOwner) (payload : List Byte) (s : State) : State × Bool :=
  if s.standalone then (s, true)
  else match enqueue (newFrame s.link.own owner payload) s.link with
    | some l => ({ s with link := claimStart l }, true)
    | none => (s, false)

/-! ## Events and answers (R159, R165) -/

/-- The payload of a NOTICE frame (R173). -/
def noticePayload (to' : Byte) (kind : Byte) (subject : Byte) (arg : Word) (lost : Nat) : List Byte :=
  [to', 2, kind, subject] ++ wordBytes arg ++ [toByte lost]

/-- The route step of raising an event (R165), for a record that carries `lost`; the lost count is 0 as this starts. -/
def routeEvent (kind subject : Byte) (arg : Word) (lost : Nat) (s : State) : State :=
  match s.tablet.route with
  | .none => addLost lost s
  | .self =>
    if s.tablet.linkUp then placeRecord 8 lost (eventBody kind s.ownByte subject arg lost) s else addLost lost s
  | .station t =>
    let r := offer (.notice lost) (noticePayload (t.setWidth 8) kind subject arg lost) s
    if r.2 then r.1 else addLost (lost + 1) r.1

/-- A block raises an event: the mask, the record with the lost count, the route (R165). -/
def raiseEvent (kind : EventKind) (subject : Byte) (arg : Word) (s : State) : State :=
  if s.tablet.mask.getLsbD kind.code then
    routeEvent (toByte kind.code) subject arg s.tablet.lost { s with tablet := { s.tablet with lost := 0 } }
  else s

/-- The payload of an ANSWER frame, its data cut to the 37 bytes of room (R159, R173). -/
def answerPayload (to' tag : Byte) (r : Result) (data : List Byte) : List Byte :=
  [to', tag, r.code] ++ data.take 37

/-- Issue a request's answer to its answer destination (R159, R160). -/
def answer (h : ReqCtx) (r : Result) (data : List Byte) (s : State) : State :=
  match h.dest with
  | .self => placeAnswer (answerBody h.tag h.station r data) s
  | .station t =>
    let o := offer .answer (answerPayload (t.setWidth 8) h.tag r data) s
    if o.2 then o.1 else addLost 1 o.1

end Sys2Proof.Machine
end

