-- ==== Sys2Proof/Machine/Motors.lean ====
section
/-! DEFINITION. Motor channels: entering a mode, halts and trips, the encoder, the PWM wrap, and the checks of the motor
requests (R58 to R76, R92 to R95). -/

namespace Sys2Proof.Machine

/-! ## Entering a mode (R60 to R62) -/

/-- The compare value of an output duty: twice its magnitude, 0 below 8 (R92). -/
def compareOf (d : Int) : Nat := if 2 * d.natAbs < 8 then 0 else 2 * d.natAbs

/-- The direction of an output duty; 0 leaves the direction as it stood (R92). -/
def dirOf (d : Int) (old : Dir) : Dir := if 0 < d then .forward else if d < 0 then .reverse else old

def Style.mode : Style → ChanMode
  | .brake => .brake
  | .coast => .coast

/-- Entry into COAST or BRAKE (R60). -/
def enterStop (style : Style) (ch : Channel) : Channel :=
  { ch with mode := style.mode, integ := 0, duty := 0, nextC := 0, settle := 0, moveDone := false, lapse := false }

/-- A mode in which a profile target moves toward a goal. -/
def ChanMode.positionControlled : ChanMode → Bool
  | .position _ => true
  | .hold _ => true
  | .follow _ _ => true
  | _ => false

/-- The modes that close a loop on position or speed (R58). -/
def MotorSetpoint.needsEncoder : MotorSetpoint → Bool
  | .speed _ => true
  | .position _ => true
  | .hold => true
  | .follow _ => true
  | _ => false

/-- The profile seeds of an entry into a position-controlled mode (R62): bumpless, or kept. -/
def seedProfile (ch : Channel) : Channel :=
  if ch.mode.positionControlled then ch
  else { ch with tc := ch.position, tf := 0, v := clampAbs ch.params.vmax ch.speed }

/-- The reference of an entry into SPEED: seeded from the measured speed, or kept in SPEED (R61). -/
def seedRef (ch : Channel) : Int :=
  match ch.mode with
  | .speed _ => ch.ref
  | _ => clampAbs ch.params.vmax ch.speed

/-- The goal of an entry into FOLLOW (R62). -/
def followGoal (ch : Channel) : Word :=
  match ch.mode with
  | .follow _ g => g
  | _ => ch.position

/-- The settle counter and the marks, cleared on every entry into a mode (R60, R62, R64, R70). -/
def clearMarks (ch : Channel) : Channel := { ch with settle := 0, moveDone := false, lapse := false }

/-- A channel enters the mode of a setpoint record (R60 to R62). -/
def enterSetpoint (sp : MotorSetpoint) (ch : Channel) : Channel :=
  match sp with
  | .coast => enterStop .coast ch
  | .brake => enterStop .brake ch
  | .openDrive d => { clearMarks ch with mode := .openDrive d, integ := 0 }
  | .speed v => { clearMarks ch with mode := .speed (clampAbs ch.params.vmax v), ref := seedRef ch }
  | .position g => { clearMarks (seedProfile ch) with mode := .position g }
  | .hold => { clearMarks (seedProfile ch) with mode := .hold ch.position }
  | .follow r => { clearMarks (seedProfile ch) with mode := .follow r (followGoal ch) }

/-! ## Halts and trips (R71 to R74) -/

/-- The fault unit halts a channel with a style (R71). -/
def haltChannel (c : Fin 4) (style : Style) (s : State) : State :=
  s.modChan c fun ch => { enterStop style ch with haltFlag := true }

/-- CLEAR_FAULT clears a channel's halt flag and leaves its mode (R72). -/
def clearHalt (c : Fin 4) (s : State) : State := s.modChan c fun ch => { ch with haltFlag := false }

/-- The bit of a watch in a channel's trip holders. -/
def holderBit (k : Fin 8) : BitVec 8 := BitVec.ofNat 8 (2 ^ k.val)

/-- A latching watch takes hold of a channel (R73). -/
def tripChannel (k : Fin 8) (style : Style) (c : Fin 4) (s : State) : State :=
  s.modChan c fun ch => { enterStop style ch with tripHolders := ch.tripHolders ||| holderBit k }

/-- A watch leaves a channel's trip holders; a channel whose holders become empty by this goes on (R74). -/
def releaseChannel (k : Fin 8) (c : Fin 4) (s : State) : State :=
  let ch := s.chan c
  let left := ch.tripHolders &&& ~~~ holderBit k
  let ch' := { ch with tripHolders := left }
  if ch.tripHolders ≠ 0 ∧ left = 0 ∧ ch.kind = .encoded ∧ ch.haltFlag = false ∧ s.fault.halted = false then
    s.setChan c (enterSetpoint .hold ch')
  else s.setChan c ch'

/-- The end of BROWNOUT sets every channel to COAST (R75). -/
def coastAll (s : State) : State := forEach all4 (fun c s => s.modChan c (enterStop .coast)) s

/-! ## The limit (R88, R89) -/

/-- The ceiling of Leff: L, or the lesser of L and 800 in SAG (R88). -/
def ceiling (sag : Bool) (ch : Channel) : Nat := if sag then min ch.params.limit 800 else ch.params.limit

/-- Bring Leff down to a cap at once, and d with it (R89). -/
def lowerLimit (cap : Nat) (ch : Channel) : Channel :=
  if cap < ch.leff then
    let d := clampAbs cap ch.duty
    if cap < ch.duty.natAbs then { ch with leff := cap, duty := d, nextC := compareOf d } else { ch with leff := cap }
  else ch

/-! ## The encoder and the PWM generator (R69, R93 to R95) -/

/-- The forward sequence of the encoder lines, in which line 1 leads line 2 (R69): the place of a two-bit state in it. -/
def encoderPhase (l1 l2 : Bool) : Nat :=
  match l1, l2 with
  | false, false => 0
  | true, false => 1
  | true, true => 2
  | false, true => 3

/-- A transition of a channel's encoder lines (R69). -/
def encoderStep (l1 l2 : Bool) (ch : Channel) : Channel :=
  let ch' := { ch with line1 := l1, line2 := l2 }
  match ch.kind with
  | .plain => ch'
  | .encoded =>
    match (encoderPhase l1 l2 + 4 - encoderPhase ch.line1 ch.line2) % 4 with
    | 0 => ch'
    | 1 => { ch' with position := ch.position + 1 }
    | 3 => { ch' with position := ch.position - 1 }
    | _ => { ch' with glitch := satAdd 255 ch.glitch 1 }

/-- ENCODER_TRANSITION: counted from the end of the reset on; during a reset only the levels change (R69, R76). -/
def execEncoderTransition (c : Fin 4) (l1 l2 : Bool) (s : State) : Host.Outcome State Fault Refusal :=
  .next (if s.inReset then s.modChan c fun ch => { ch with line1 := l1, line2 := l2 } else s.modChan c (encoderStep l1 l2))

/-- The load of the running compare and direction at a wrap (R94). -/
def loadCompare (ch : Channel) : Channel :=
  if ch.nextC = 0 then { ch with runC := 0 }
  else if ch.nextDir = ch.runDir then { ch with runC := ch.nextC }
  else if ch.runC = 0 then { ch with runC := ch.nextC, runDir := ch.nextDir }
  else { ch with runC := 0 }

/-- The bridge pattern of a new PWM period (R95). -/
def patternOf (brownout : Bool) (ch : Channel) : BridgePattern :=
  if brownout then .allOff
  else match ch.mode with
    | .coast => .allOff
    | .brake => .lowSides
    | _ => if ch.runC = 0 then .lowSides else .drive ch.runDir ch.runC

/-- PWM_WRAP (R93 to R95). -/
def execPwmWrap (c : Fin 4) (s : State) : Host.Outcome State Fault Refusal :=
  .next (if s.inReset then s
    else s.modChan c fun ch =>
      let ch' := loadCompare ch
      { ch' with bridge := patternOf (s.supply.state == .brownout) ch' })

/-! ## FOLLOW sources (R67, R68) -/

/-- What a FOLLOW source offers: a value while it is usable, or the cause of the lapse (R67, R68). -/
inductive SourceReading where
  | value (x : Word)
  | lapse (cause : Nat)
  deriving DecidableEq, Repr

/-- Read a FOLLOW source as it stands (R67, R68). -/
def readSource (src : FollowSource) (s : State) : SourceReading :=
  match src with
  | .localChan c => if (s.chan c).kind = .encoded then .value (s.chan c).position else .lapse 4
  | .mirror k =>
    match s.entry k with
    | some e => match e.state with
      | .fresh => .value e.value
      | .stale => .lapse 1
      | .never => .lapse 2
    | none => .lapse 2
  | .sensor p n =>
    let r := (s.port p).reading
    if r.valid then
      match r.values[n]? with
      | some x => .value x
      | none => .lapse 3
    else .lapse 3

/-- A FOLLOW source is usable (R67). -/
def sourceUsable (src : FollowSource) (s : State) : Bool :=
  match readSource src s with
  | .value _ => true
  | .lapse _ => false

/-! ## The checks of the motor requests (R53, R63, R64) -/

/-- The checks on the state of the station and the channel, in their order (R53, R63, R64). -/
def channelCheck (c : Fin 4) (sp : MotorSetpoint) (s : State) : Option Result :=
  if s.fault.halted then some .faulted
  else if (s.chan c).haltFlag then some .faulted
  else if (s.chan c).tripHolders ≠ 0 then some .tripped
  else if (s.chan c).kind = .plain ∧ sp.needsEncoder = true then some .noEncoder
  else none

/-- The setpoint of SET_MOTOR's mode and value, or none for an unknown mode or a duty out of range (R63). -/
def setpointOf (mode : Byte) (value : Word) : Option MotorSetpoint :=
  match mode.toNat with
  | 0 => some .coast
  | 1 => some .brake
  | 2 => if -1000 ≤ value.toInt ∧ value.toInt ≤ 1000 then some (.openDrive value.toInt) else none
  | 3 => some (.speed value.toInt)
  | 4 => some (.position value)
  | 5 => some .hold
  | _ => none

/-- A set speed brought within ±Vmax; whether it was clamped (R43, R63). -/
def clampSetpoint (vmax : Nat) (sp : MotorSetpoint) : MotorSetpoint × Bool :=
  match sp with
  | .speed v => (.speed (clampAbs vmax v), clampAbs vmax v != v)
  | sp => (sp, false)

/-- A MIRROR source that names an unused listen entry (R38, R64). -/
def mirrorUnused (src : FollowSource) (s : State) : Bool :=
  match src with
  | .mirror k => (s.entry k).isNone
  | _ => false

/-- The follow record of SET_FOLLOW's arguments for channel c, or none for one of the refusals BAD_ARG (R64). -/
def followOf (c : Fin 4) (f : RawFollow) (s : State) : Option FollowRec :=
  match followSourceOf f.source f.which f.valueNumber with
  | none => none
  | some src =>
    if src = .localChan c ∨ mirrorUnused src s = true then none
    else if f.numerator.toInt < -1024 ∨ 1024 < f.numerator.toInt then none
    else if f.denominator.toNat = 0 ∨ 1024 < f.denominator.toNat then none
    else some { source := src, num := f.numerator.toInt, den := f.denominator.toNat, offset := f.offset }

/-! ## CONFIG_MOTOR and RESET_POSITION (R65, R66) -/

/-- Each parameter brought within its range (R59, R65). -/
def clampParams (p : RawParams) : Params where
  kp := clampN 0 4095 p.kp.toNat
  ki := clampN 0 1023 p.ki.toNat
  kx := p.kx.toNat
  vmax := clampN 1 4000 p.vmax.toNat
  acc := clampN 1 400 p.acc.toNat
  limit := clampN 0 1000 p.limit.toNat
  ilim := clampN 100 3000 p.ilim.toNat
  stallTime := clampN 100 5000 p.stallTime.toNat
  tolerance := p.tolerance.toNat

/-- The parameters of a request as they were sent. -/
def rawParams (p : RawParams) : Params where
  kp := p.kp.toNat
  ki := p.ki.toNat
  kx := p.kx.toNat
  vmax := p.vmax.toNat
  acc := p.acc.toNat
  limit := p.limit.toNat
  ilim := p.ilim.toNat
  stallTime := p.stallTime.toNat
  tolerance := p.tolerance.toNat

/-- A parameter set laid out as in its request (R172). -/
def paramBytes (p : Params) : List Byte :=
  nat16 p.kp ++ nat16 p.ki ++ [toByte p.kx] ++ nat16 p.vmax ++ nat16 p.acc ++ nat16 p.limit ++ nat16 p.ilim
    ++ nat16 p.stallTime ++ [toByte p.tolerance]

/-- A mode in which the kind may change (R65). -/
def ChanMode.stopped : ChanMode → Bool
  | .coast => true
  | .brake => true
  | _ => false

/-- The kind part of a taken CONFIG_MOTOR: a channel made ENCODED fills its history with its position (R65). -/
def changeKind (k : ChanKind) (ch : Channel) : Channel :=
  if ch.kind = k then ch
  else match k with
    | .plain => { ch with kind := .plain }
    | .encoded => { ch with kind := .encoded, history := Vector.replicate 8 ch.position }

/-- CONFIG_MOTOR (R65). -/
def doConfigMotor (h : ReqCtx) (ch kind : Byte) (p : RawParams) (s : State) : State :=
  match channelOf ch, kindOf kind with
  | some c, some k =>
    if (s.chan c).kind ≠ k ∧ (s.chan c).mode.stopped = false then answer h .busy [] s
    else
      answer h (okOr (clampParams p != rawParams p)) (paramBytes (clampParams p))
        (s.modChan c fun x => { changeKind k x with pendingParams := some (clampParams p) })
  | _, _ => answer h .badArg [] s

def execConfigMotor (h : ReqCtx) (ch kind : Byte) (p : RawParams) (s : State) : Host.Outcome State Fault Refusal :=
  .next (doConfigMotor h ch kind p s)

/-- The goal of a position-controlled mode, shifted (R66). -/
def shiftGoal (d : Word) : ChanMode → ChanMode
  | .position g => .position (g + d)
  | .hold g => .hold (g + d)
  | .follow r g => .follow r (g + d)
  | m => m

/-- The record after RESET_POSITION to a value (R66). -/
def resetPosition (value : Word) (ch : Channel) : Channel :=
  let d := value - ch.position
  let ch' := { ch with position := value, history := mapEach (· + d) ch.history, mode := shiftGoal d ch.mode }
  if ch.mode.positionControlled then { ch' with tc := ch.tc + d } else ch'

/-- RESET_POSITION (R66). -/
def doResetPosition (h : ReqCtx) (ch : Byte) (value : Word) (s : State) : State :=
  match channelOf ch with
  | some c => answer h .ok (wordBytes (s.chan c).position) (s.modChan c (resetPosition value))
  | none => answer h .badArg [] s

def execResetPosition (h : ReqCtx) (ch : Byte) (value : Word) (s : State) : Host.Outcome State Fault Refusal :=
  .next (doResetPosition h ch value s)

end Sys2Proof.Machine
end

