-- ==== Sys2Proof/Machine/Sound.lean ====
section
/-! DEFINITION. The sound unit: notes, player, tone synthesis and speaker output (R126 to R141). -/

namespace Sys2Proof.Machine

/-- Replace the sound unit's record. -/
def State.withSound (s : State) (x : Sound) : State := { s with sound := x }

/-! ## Stopping and starting (R130, R132 to R134) -/

/-- The player becomes STOPPED: no current note, sample count 0, stop-at-end mark clear (R129). -/
def stopPlayer (x : Sound) : Sound := { x with player := .stopped, current := none, count := 0, stopAtEnd := false }

/-- STOP_SOUND with NOW: the player stops and the compare is written for silence at once (R132, R137). -/
def stopNow (x : Sound) : Sound :=
  match x.player with
  | .stopped => x
  | _ => { stopPlayer x with nextCompare := 250 }

/-- The STOP_SOUND action (R132). -/
def stopAction (a : StopArg) (x : Sound) : Sound :=
  match a, x.player with
  | .now, _ => stopNow x
  | .atEnd, .stopped => x
  | .atEnd, _ => { x with stopAtEnd := true }

/-- The station becomes HALTED: the player is stopped, the queue emptied, the compare written with 250 (R140). -/
def silence (x : Sound) : Sound := { stopPlayer x with queue := [], nextCompare := 250 }

/-- BROWNOUT begins: the player is stopped and the buffer written with 250 at once (R137, R139). Its end is `stopNow`. -/
def stopForBrownout (x : Sound) : Sound := { stopPlayer x with nextCompare := 250 }

/-- The low-water arm is set whenever the queue count stands above the mark after a change (R134). -/
def setArm (x : Sound) : Sound := { x with arm := x.arm || decide (x.mark < x.queue.length) }

/-- The player takes the head note (R130) and makes the low-water test (R134). -/
def takeNote (n : Note) (rest : List Note) (s : State) : State :=
  let x := { s.sound with
    queue := rest, player := .playing, current := some n, count := 16 * n.duration, phase := 0 }
  if rest.length ≤ x.mark ∧ x.arm = true then
    raiseEvent .soundLow 0 (toWord rest.length) (s.withSound { x with arm := false })
  else s.withSound x

/-- Raise SOUND_DONE, with the queue count as argument (R130). -/
def soundDone (s : State) : State := raiseEvent .soundDone 0 (toWord s.sound.queue.length) s

/-- The START_SOUND action (R130). -/
def startAction (s : State) : State :=
  match s.sound.player, s.sound.queue with
  | .stopped, n :: rest => takeNote n rest s
  | .stopped, [] => soundDone s
  | _, _ => s

/-! ## Synthesis (R135, R136) -/

/-- The phase increment of a frequency: f × 2^24 / 16,000 to the nearest whole number, a half rounded up (R135). -/
def phaseIncrement (f : Nat) : Nat := (f * 16777216 + 8000) / 16000

/-- The amplitude of a volume: 16 × volume × master / 15 rounded down, halved rounded down in SAG (R136). -/
def amplitude (volume master : Nat) (sag : Bool) : Nat :=
  let a := 16 * volume * master / 15
  if sag then a / 2 else a

/-- The sample of a waveform of amplitude amp at accumulator p (R136). -/
def waveSample (w : Waveform) (amp p : Nat) : Int :=
  match w with
  | .square => if p < 8388608 then (amp : Int) else -(amp : Int)
  | .triangle =>
    if p < 8388608 then -(amp : Int) + ((2 * amp * p / 8388608 : Nat) : Int)
    else (amp : Int) - ((2 * amp * (p - 8388608) / 8388608 : Nat) : Int)

/-- The sample of a note: a rest gives 0 at every p (R136). -/
def noteSample (n : Note) (master : Nat) (sag : Bool) (p : Nat) : Int :=
  if n.frequency = 0 then 0 else waveSample n.waveform (amplitude n.volume master sag) p

/-! ## The sample clock (R131) -/

/-- A gap ends (R131). -/
def gapEnd (s : State) : State :=
  if s.sound.stopAtEnd then soundDone (s.withSound (stopPlayer s.sound))
  else match s.sound.queue with
    | n :: rest => takeNote n rest s
    | [] => soundDone (s.withSound (stopPlayer s.sound))

/-- One sample of PLAYING for note n (R131, R135 to R137). -/
def playSample (n : Note) (s : State) : State :=
  let x := s.sound
  let out := 250 + noteSample n x.master (s.supply.state == .sag) x.phase.toNat
  let x' := { x with
    nextCompare := out.toNat, phase := x.phase + BitVec.ofNat 24 (phaseIncrement n.frequency), count := x.count - 1 }
  if x.count - 1 = 0 then
    if 16 * n.gap = 0 then gapEnd (s.withSound { x' with player := .gapping })
    else s.withSound { x' with player := .gapping, count := 16 * n.gap }
  else s.withSound x'

/-- One sample of GAPPING (R131). -/
def gapSample (s : State) : State :=
  let x := { s.sound with nextCompare := 250, count := s.sound.count - 1 }
  if s.sound.count - 1 = 0 then gapEnd (s.withSound x) else s.withSound x

/-- One expiry of the sample clock (R131). -/
def sampleStep (s : State) : State :=
  match s.sound.player, s.sound.current with
  | .playing, some n => playSample n s
  | .gapping, _ => gapSample s
  | _, _ => s.withSound { s.sound with nextCompare := 250 }

/-- SAMPLE_CLOCK: the clock starts at the end of the reset (R129, R141). -/
def execSampleClock (s : State) : Host.Outcome State Fault Refusal := .next (if s.inReset then s else sampleStep s)

/-- SPEAKER_PWM_WRAP: the running compare from the buffer, or 250 in BROWNOUT (R137, R139). -/
def execSpeakerPwmWrap (s : State) : Host.Outcome State Fault Refusal :=
  .next (if s.inReset then s
    else s.withSound { s.sound with
      runCompare := if s.supply.state = .brownout then 250 else s.sound.nextCompare })

/-- What the speaker driver puts on its pins (R137, R141): nothing, or a square drive of the compare ticks of each 500. -/
inductive SpeakerDrive where
  | off
  | pulse (compare : Nat)
  deriving DecidableEq, Repr

/-- The speaker driver: its output is off during a reset, and otherwise follows the running compare (R137, R141). -/
def State.speaker (s : State) : SpeakerDrive := if s.inReset then .off else .pulse s.sound.runCompare

/-! ## Requests (R127, R133, R138) -/

/-- A note brought within its ranges (R127); `none` for a waveform of no known kind. -/
def clampNote (r : RawNote) : Option Note :=
  (waveformOf r.waveform).map fun w =>
    { frequency := if r.frequency.toNat = 0 then 0 else clampN 40 8000 r.frequency.toNat
      duration := clampN 1 10000 r.duration.toNat
      volume := clampN 0 15 r.volume.toNat
      waveform := w
      gap := r.gap.toNat }

/-- A note that clamping changes (R127). -/
def noteLimited (r : RawNote) : Bool :=
  (decide (r.frequency.toNat ≠ 0) && (clampN 40 8000 r.frequency.toNat != r.frequency.toNat))
    || clampN 1 10000 r.duration.toNat != r.duration.toNat || clampN 0 15 r.volume.toNat != r.volume.toNat

/-- CLEAR_SOUND (R133). -/
def doClearSound (h : ReqCtx) (s : State) : State :=
  if s.fault.halted then answer h .faulted [] s
  else answer h .ok [toByte s.sound.queue.length] (s.withSound { stopNow s.sound with queue := [] })

def execClearSound (h : ReqCtx) (s : State) : Host.Outcome State Fault Refusal := .next (doClearSound h s)

/-- SET_VOLUME (R138). -/
def doSetVolume (h : ReqCtx) (master mark : Byte) (s : State) : State :=
  let m := clampN 0 15 master.toNat
  let k := clampN 0 31 mark.toNat
  answer h (okOr (m != master.toNat || k != mark.toNat)) [toByte m, toByte k]
    (s.withSound (setArm { s.sound with master := m, mark := k }))

def execSetVolume (h : ReqCtx) (master mark : Byte) (s : State) : Host.Outcome State Fault Refusal :=
  .next (doSetVolume h master mark s)

end Sys2Proof.Machine
end

