-- ==== Sys2Proof/Machine/Faults.lean ====
section
/-! DEFINITION. The fault unit: sources, reactions, halts, HALT frames, clearing and the keepalive (R146 to R154). -/

namespace Sys2Proof.Machine

/-! ## The halted station (R149) and HALT frames (R150) -/

/-- A halt of the station with a style (R149). -/
def haltStation (style : Style) (s : State) : State :=
  let s := { s with fault := { s.fault with halted := true } }
  let s := forEach all4 (fun c s => haltChannel c style s) s
  s.withSound (silence s.sound)

/-- The halt mask of halt groups: the mask, or the membership held now (R150). -/
def haltMask (g : HaltGroups) (s : State) : Byte :=
  match g with
  | .membership => s.cue.membership
  | .mask m => m

/-- Build a HALT frame with its cause and offer it; a refusal loses it (R150, R18). -/
def offerHalt (g : HaltGroups) (cause : Byte) (s : State) : State := (offer .halt [haltMask g s, cause] s).1

/-- The reaction of a latching source (R148): `stall` is the channel of a STALL source. -/
def react (cause : Byte) (stall : Option (Fin 4)) (r : Reaction) (style : Style) (g : HaltGroups) (s : State) : State :=
  match r with
  | .none => s
  | .report => s
  | .channelStop => match stall with
    | some c => haltChannel c style s
    | none => s
  | .localHalt => haltStation style s
  | .groupHalt => offerHalt g cause (haltStation style s)

/-! ## The source table (R147) -/

/-- The channel of a STALL source: codes 0 to 3. -/
def stallChannel (k : Fin 8) : Option (Fin 4) := if h : k.val < 4 then some ⟨k.val, h⟩ else none

/-- Raise an event of a source, unless its reaction is NONE (R147). -/
def sourceEvent (kind : EventKind) (k : Fin 8) (arg : Word) (s : State) : State :=
  if (s.source k).reaction = .none then s else raiseEvent kind (toByte k.val) arg s

/-- A source becomes LATCHED, raises FAULT_LATCHED and performs its reaction (R147, R148). -/
def latch (k : Fin 8) (s : State) : State :=
  let f := s.source k
  let s := s.setSource k { f with state := .latched, timer := none }
  let s := sourceEvent .faultLatched k (f.reaction.code.setWidth 32) s
  react (toByte k.val) (stallChannel k) f.reaction f.style f.groups s

/-- The owner of a source tells that its condition begins (R147). -/
def conditionBegin (k : Fin 8) (s : State) : State :=
  let f := s.source k
  let s := s.setSource k { f with condition := true }
  match f.state with
  | .inactive =>
    if 0 < f.grace then
      sourceEvent .faultGrace k (toWord f.grace)
        (s.setSource k { f with condition := true, state := .grace, timer := some 0 })
    else latch k s
  | _ => s

/-- The owner of a source tells that its condition ends (R147). -/
def conditionEnd (k : Fin 8) (s : State) : State :=
  let f := s.source k
  match f.state with
  | .grace =>
    sourceEvent .faultEased k 0 (s.setSource k { f with condition := false, state := .inactive, timer := none })
  | _ => s.setSource k { f with condition := false }

/-- Tell the fault unit how a condition stands now; only a beginning or an end acts (R145, R147). -/
def tellCondition (k : Fin 8) (now : Bool) (s : State) : State :=
  match (s.source k).condition, now with
  | false, true => conditionBegin k s
  | true, false => conditionEnd k s
  | _, _ => s

/-- A source in GRACE has spent its grace time there (R146, R147). -/
def graceSpent (f : FaultSource) : Bool :=
  match f.state, f.timer with
  | .grace, some spent => decide (f.grace ≤ spent)
  | _, _ => false

/-- GRACE_TIMER_EXPIRY: a source that has spent its grace time latches (R147, log entry 7). -/
def execGraceTimerExpiry (k : Fin 8) (s : State) : Host.Outcome State Fault Refusal :=
  .next (if graceSpent (s.source k) then latch k s else s)

/-! ## Source codes of conditions told by other units -/

def srcOverheat : Fin 8 := 4
def srcSupplyLow : Fin 8 := 5
def srcLinkSilent : Fin 8 := 6
def srcWatch : Fin 8 := 7

/-- The source of a channel's STALL condition (R91). -/
def srcStall (c : Fin 4) : Fin 8 := ⟨c.val, by omega⟩

/-! ## CONFIG_FAULT (R146) -/

/-- The settings of a source, as the answer of CONFIG_FAULT carries them (R146, R172). -/
def settingBytes (code : Byte) (r : Reaction) (grace : Nat) (style : Style) (g : HaltGroups) : List Byte :=
  [r.code] ++ nat16 grace ++ [style.code] ++ match g with
    | .membership => [0, Config.membershipMaskByte code]
    | .mask m => [1, m]

/-- A reaction that a source takes: CHANNEL_STOP only for the four STALL sources (R146). -/
def reactionFits (k : Fin 8) (r : Reaction) : Bool :=
  match r with
  | .channelStop => decide (k.val < 4)
  | _ => true

/-- Store a source's new settings; a source in GRACE whose time spent reaches the new grace time latches (R146). -/
def storeSettings (k : Fin 8) (r : Reaction) (grace : Nat) (style : Style) (g : HaltGroups) (s : State) : State :=
  let f := { s.source k with reaction := r, grace := grace, style := style, groups := g }
  if graceSpent f then latch k (s.setSource k f) else s.setSource k f

/-- CONFIG_FAULT (R146). -/
def doConfigFault (h : ReqCtx) (source reaction : Byte) (grace : Half) (style form mask : Byte) (s : State) : State :=
  if 9 < source.toNat ∨ source.toNat = 8 then answer h .badArg [] s
  else match styleOf style with
    | none => answer h .badArg [] s
    | some st =>
      match watchOf source with
      | none => answer h .ok [st.code] { s with fault := { s.fault with remoteStyle := st } }
      | some k =>
        match reactionOf reaction, groupsOf form mask with
        | some r, some g =>
          if reactionFits k r then
            let gr := min 2000 grace.toNat
            answer h (okOr (decide (2000 < grace.toNat))) (settingBytes source r gr st g) (storeSettings k r gr st g s)
          else answer h .badArg [] s
        | _, _ => answer h .badArg [] s

def execConfigFault (h : ReqCtx) (source reaction : Byte) (grace : Half) (style form mask : Byte) (s : State) :
    Host.Outcome State Fault Refusal :=
  .next (doConfigFault h source reaction grace style form mask s)

/-! ## The manual halt and clearing (R152, R153) -/

/-- The code of a station fault state: RUNNING 0, HALTED 1 (R172). -/
def haltedByte (b : Bool) : Byte := boolByte b

/-- The reaction a HALT request may carry (R152). -/
def haltReactionOf (b : Byte) : Option Reaction :=
  match reactionOf b with
  | some .localHalt => some .localHalt
  | some .groupHalt => some .groupHalt
  | _ => none

/-- MANUAL becomes LATCHED with the request's settings and performs its reaction (R152). -/
def manualHalt (r : Reaction) (st : Style) (g : HaltGroups) (s : State) : State :=
  let s := { s with fault := { s.fault with manual := some { reaction := r, style := st, groups := g } } }
  react 8 none r st g (raiseEvent .faultLatched 8 (r.code.setWidth 32) s)

/-- HALT (R152). -/
def doHalt (h : ReqCtx) (reaction style form mask : Byte) (s : State) : State :=
  match haltReactionOf reaction, styleOf style, groupsOf form mask with
  | some r, some st, some g => answer h .ok [haltedByte s.fault.halted] (manualHalt r st g s)
  | _, _, _ => answer h .badArg [] s

def execHalt (h : ReqCtx) (reaction style form mask : Byte) (s : State) : Host.Outcome State Fault Refusal :=
  .next (doHalt h reaction style form mask s)

/-- A mask of sources, source code k in bit k. -/
def sourceMask (p : Fin 8 → Bool) : Nat := (all8.map fun k => if p k then 2 ^ k.val else 0).sum

/-- The LATCHED sources whose condition is present (R153). -/
def blockingMask (s : State) : Nat :=
  sourceMask fun k => decide ((s.source k).state = .latched) && (s.source k).condition

/-- What CLEAR_FAULT clears: the LATCHED sources, MANUAL in bit 8, a remote-halt record in bit 9 (R153). -/
def clearedMask (s : State) : Nat :=
  (sourceMask fun k => decide ((s.source k).state = .latched))
    + (if s.fault.manual.isSome then 256 else 0) + (if s.fault.remote.isSome then 512 else 0)

/-- A LATCHED source becomes INACTIVE; any other is kept (R153). -/
def unlatch (f : FaultSource) : FaultSource :=
  match f.state with
  | .latched => { f with state := .inactive }
  | _ => f

/-- The steps of a taken CLEAR_FAULT but for its event (R153). -/
def clearFaults (s : State) : State :=
  let s := { s with
    fault := { s.fault with sources := mapEach unlatch s.fault.sources, manual := none, remote := none, halted := false } }
  forEach all4 clearHalt s

/-- CLEAR_FAULT (R153). -/
def doClearFault (h : ReqCtx) (s : State) : State :=
  if blockingMask s ≠ 0 then answer h .stillActive (nat16 (blockingMask s)) s
  else
    answer h .ok (nat16 (clearedMask s)) (raiseEvent .faultCleared 0 (toWord (clearedMask s)) (clearFaults s))

def execClearFault (h : ReqCtx) (s : State) : Host.Outcome State Fault Refusal := .next (doClearFault h s)

/-! ## HALT frames taken (R151) -/

/-- A mask that is 0 or shares a bit with the membership (R40, R151). -/
def maskMeets (mask membership : Byte) : Bool := mask == 0 || mask &&& membership != 0

/-- A HALT frame handed over as not the station's own (R151). -/
def takeHaltFrame (sender : BitVec 4) (payload : List Byte) (s : State) : State :=
  match payload with
  | [mask, cause] =>
    if cause.toNat ≤ 8 ∧ maskMeets mask s.cue.membership = true then
      let s := { s with fault := { s.fault with remote := some { station := sender, cause := cause } } }
      raiseEvent .remoteHalt (sender.setWidth 8) (cause.setWidth 32) (haltStation s.fault.remoteStyle s)
    else s
  | _ => s

/-! ## The keepalive (R154) -/

/-- A keepalive timer started at a period, or stopped for a period of 0. -/
def keepStart (period : Nat) : Option Nat := if period = 0 then none else some period

/-- A request is taken for execution at this station: the timer restarts and LINK_SILENT ends if present (R154). -/
def restartKeepalive (s : State) : State :=
  tellCondition srcLinkSilent false { s with fault := { s.fault with keepTimer := keepStart s.fault.keepPeriod } }

/-- The period SET_KEEPALIVE stores (R154). -/
def keepPeriodOf (p : Nat) : Nat := if p = 0 then 0 else clampN 100 5000 p

/-- SET_KEEPALIVE (R154). -/
def doSetKeepalive (h : ReqCtx) (period : Half) (s : State) : State :=
  let p := keepPeriodOf period.toNat
  answer h (okOr (p != period.toNat)) (nat16 p)
    { s with fault := { s.fault with keepPeriod := p, keepTimer := keepStart p } }

def execSetKeepalive (h : ReqCtx) (period : Half) (s : State) : Host.Outcome State Fault Refusal :=
  .next (doSetKeepalive h period s)

/-- KEEPALIVE_TIMER_EXPIRY: a timer that has run out stops and LINK_SILENT begins (R154, log entry 7). -/
def execKeepaliveTimerExpiry (s : State) : Host.Outcome State Fault Refusal :=
  .next (if ranOut s.fault.keepTimer then
      tellCondition srcLinkSilent true { s with fault := { s.fault with keepTimer := none } }
    else s)

end Sys2Proof.Machine
end

