-- ==== Sys2Proof/Machine/Holds.lean ====
section
/-! DEFINITION. What a watch lets go of: rearming and clearing, and the snapshot of the sensor ports (R55, R56, R118, R124). -/

namespace Sys2Proof.Machine

/-- The channels of a channel set, in the order A, B, C, D. -/
def channelsOf (set : BitVec 4) : List (Fin 4) := all4.filter fun c => set.getLsbD c.val

/-- A TRIPPED watch whose action is FAULT (R123). -/
def holdsFault (w : Option Watch) : Bool :=
  match w with
  | some w => w.state == .tripped && w.action == .fault
  | none => false

/-- Another watch than k is TRIPPED with the action FAULT (R123). -/
def otherFaultHeld (k : Fin 8) (s : State) : Bool := all8.any fun j => j != k && holdsFault (s.watch j)

/-- A watch that was TRIPPED releases its holds: it leaves the trip holders of its channels in order, or ends the WATCH
condition if it was the last (R124). Releasing raises no event of the watch unit's own; the fault unit's FAULT_EASED, where
the end of the condition finds WATCH in GRACE (R147), is raised all the same: DESIGN CHOICE (log entry 36). -/
def releaseHolds (k : Fin 8) (a : WatchAction) (s : State) : State :=
  match a with
  | .tripBrake set => forEach (channelsOf set) (releaseChannel k) s
  | .tripCoast set => forEach (channelsOf set) (releaseChannel k) s
  | .fault => if otherFaultHeld k s then s else tellCondition srcWatch false s
  | _ => s

/-- Rearm a FIRED or TRIPPED watch: ARMED, its last evaluation false, then its holds released (R124). -/
def rearmWatch (k : Fin 8) (w : Watch) (s : State) : State :=
  let s' := s.setWatch k (some { w with state := .armed, lastEval := false })
  if w.state = .tripped then releaseHolds k w.action s' else s'

/-- A watch that REARM takes: FIRED or TRIPPED. -/
def Watch.acted (w : Watch) : Bool := w.state != .armed

/-- A FIRED or TRIPPED watch whose last evaluation was false (R56, R124). -/
def rearmable (w : Option Watch) : Bool :=
  match w with
  | some w => w.acted && !w.lastEval
  | none => false

/-- A FIRED or TRIPPED watch whose last evaluation was true (R124). -/
def rearmBlocked (w : Option Watch) : Bool :=
  match w with
  | some w => w.acted && w.lastEval
  | none => false

/-- Rearm watch k if it may be rearmed, else pass it over (R56). -/
def rearmIf (k : Fin 8) (s : State) : State :=
  match s.watch k with
  | some w => if w.acted && !w.lastEval then rearmWatch k w s else s
  | none => s

/-- REARM_ALL: every watch that may be rearmed, in index order (R56). -/
def rearmAll (s : State) : State := forEach all8 rearmIf s

/-- The number of watches REARM_ALL would rearm: one watch's rearming changes no other's state (R45, R124). -/
def rearmableCount (s : State) : Nat := (all8.filter fun k => rearmable (s.watch k)).length

/-- Clear watch k: a TRIPPED watch releases its holds, then the watch is DISARMED (R118). -/
def clearWatch (k : Fin 8) (s : State) : State :=
  match s.watch k with
  | some w => (if w.state = .tripped then releaseHolds k w.action s else s).setWatch k none
  | none => s

/-- The snapshot record a port receives at a station clock (R55, R113). -/
def snapshotOf (r : Reading) (time : Word) : Snapshot :=
  if r.valid then { valid := true, mode := r.mode, values := r.values, time := time }
  else { valid := false, mode := r.mode, values := [], time := time }

/-- SNAPSHOT: every port's reading record into its snapshot record, with one snapshot time (R55). -/
def takeSnapshots (s : State) : State :=
  forEach all4 (fun p t => t.modPort p fun x => { x with snapshot := snapshotOf x.reading s.cue.clock }) s

end Sys2Proof.Machine
end

