-- ==== Sys2Proof/Machine/Cues.lean ====
section
/-! DEFINITION. The cue unit: membership, staging, the requests that carry a cue field, cues sent and taken (R39 to R57). -/

namespace Sys2Proof.Machine

/-! ## The cue table (R41, R44) -/

/-- The first entry of a cue number and target. -/
def sameSlot (e x : CueEntry) : Bool := x.cue == e.cue && x.action.target == e.action.target

/-- Place an entry: in the place of the one with its cue and target, else after the newest if fewer than 16 are held. The
table after, and the entry's position counted from 1 (R44). -/
def placeEntry (e : CueEntry) (t : List CueEntry) : Option (List CueEntry × Nat) :=
  match t.findIdx? (sameSlot e) with
  | some i => some (t.set i e, i + 1)
  | none => if t.length < 16 then some (t ++ [e], t.length + 1) else none

/-- Replace the cue table. -/
def State.withTable (s : State) (t : List CueEntry) : State := { s with cue := { s.cue with table := t } }

/-- Stage an action whose arguments passed, and answer (R42 to R44). -/
def stage (h : ReqCtx) (cue : Byte) (keep : Bool) (a : CueAction) (limited : Bool) (s : State) : State :=
  match placeEntry { cue := cue.toNat, action := a, keep := keep } s.cue.table with
  | some (t, pos) => answer h (okOr limited) [toByte pos, toByte t.length] (s.withTable t)
  | none => answer h .tableFull [] s

/-! ## Applying entries (R51 to R56) -/

/-- Apply an entry's action through the block that owns its target: the state after, or the reason of a refusal. -/
def applyAction (a : CueAction) (s : State) : Except Result State :=
  match a with
  | .motor c sp =>
    match channelCheck c sp s with
    | some r => .error r
    | none =>
      match sp with
      | .follow r => if mirrorUnused r.source s then .error .badArg else .ok (s.modChan c (enterSetpoint sp))
      | _ => .ok (s.modChan c (enterSetpoint sp))
  | .startSound => if s.fault.halted then .error .faulted else .ok (startAction s)
  | .stopSound a => if s.fault.halted then .error .faulted else .ok (s.withSound (stopAction a s.sound))
  | .snapshot => .ok (takeSnapshots s)
  | .rearmAll => .ok (rearmAll s)

/-- The argument of CUE_ENTRY_REFUSED: the target code above the result code (R52). -/
def refusalArg (a : CueAction) (r : Result) : Word := toWord (a.target * 65536 + r.code.toNat)

/-- Apply the entries of cue n in staging order; how many were applied without refusal (R51, R52). -/
def applyEntries (n : Nat) : List CueEntry → State → State × Nat
  | [], s => (s, 0)
  | e :: es, s =>
    if e.cue = n then
      match applyAction e.action s with
      | .ok s' => let r := applyEntries n es s'; (r.1, r.2 + 1)
      | .error why => applyEntries n es (raiseEvent .cueEntryRefused (toByte n) (refusalArg e.action why) s)
    else applyEntries n es s

/-- The entries that stay after cue n is taken (R51). -/
def keptEntries (n : Nat) (t : List CueEntry) : List CueEntry := t.filter fun e => e.cue != n || e.keep

/-- Take a cue of number n (R51). -/
def takeCue (n : Nat) (s : State) : State :=
  let r := applyEntries n s.cue.table s
  raiseEvent .cueTaken (toByte n) (toWord r.2) (r.1.withTable (keptEntries n r.1.cue.table))

/-- A CUE frame handed to the cue unit: the payload check of R50, the membership test of R40. -/
def takeCueFrame (payload : List Byte) (s : State) : State :=
  match payload with
  | [mask, cue] =>
    if (1 ≤ cue.toNat ∧ cue.toNat ≤ 15) ∧ maskMeets mask s.cue.membership = true then takeCue cue.toNat s else s
  | _ => s

/-! ## Requests with a cue field -/

/-- The data of SET_MOTOR's answer: the mode, the setpoint stored, the position (R63). -/
def motorData (ch : Channel) : List Byte := [ch.mode.code] ++ wordBytes ch.mode.setpoint ++ wordBytes ch.position

/-- SET_MOTOR with cue 0, its arguments passed (R63). -/
def setMotorNow (h : ReqCtx) (c : Fin 4) (sp : MotorSetpoint) (s : State) : State :=
  match channelCheck c sp s with
  | some r => answer h r [] s
  | none =>
    let s' := s.modChan c (enterSetpoint sp)
    answer h (okOr (clampSetpoint (s.chan c).params.vmax sp).2) (motorData (s'.chan c)) s'

/-- SET_MOTOR (R43, R63). -/
def doSetMotor (h : ReqCtx) (ch mode : Byte) (value : Word) (cue : Byte) (keep : Bool) (s : State) : State :=
  match channelOf ch, setpointOf mode value with
  | some c, some sp =>
    if 15 < cue.toNat then answer h .badArg [] s
    else if cue = 0 then setMotorNow h c sp s
    else
      let r := clampSetpoint (s.chan c).params.vmax sp
      stage h cue keep (.motor c r.1) r.2 s
  | _, _ => answer h .badArg [] s

def execSetMotor (h : ReqCtx) (ch mode : Byte) (value : Word) (cue : Byte) (keep : Bool) (s : State) :
    Host.Outcome State Fault Refusal :=
  .next (doSetMotor h ch mode value cue keep s)

/-- SET_FOLLOW with cue 0, its arguments passed (R64). -/
def setFollowNow (h : ReqCtx) (c : Fin 4) (r : FollowRec) (s : State) : State :=
  match channelCheck c (.follow r) s with
  | some why => answer h why [] s
  | none =>
    answer h .ok (wordBytes (s.chan c).position ++ [boolByte (sourceUsable r.source s)])
      (s.modChan c (enterSetpoint (.follow r)))

/-- SET_FOLLOW (R43, R64). -/
def doSetFollow (h : ReqCtx) (ch : Byte) (f : RawFollow) (cue : Byte) (keep : Bool) (s : State) : State :=
  match channelOf ch with
  | none => answer h .badArg [] s
  | some c =>
    match followOf c f s with
    | none => answer h .badArg [] s
    | some r =>
      if 15 < cue.toNat then answer h .badArg [] s
      else if cue = 0 then setFollowNow h c r s
      else stage h cue keep (.motor c (.follow r)) false s

def execSetFollow (h : ReqCtx) (ch : Byte) (f : RawFollow) (cue : Byte) (keep : Bool) (s : State) :
    Host.Outcome State Fault Refusal :=
  .next (doSetFollow h ch f cue keep s)

/-- START_SOUND (R43, R130). -/
def doStartSound (h : ReqCtx) (cue : Byte) (keep : Bool) (s : State) : State :=
  if 15 < cue.toNat then answer h .badArg [] s
  else if cue = 0 then
    if s.fault.halted then answer h .faulted [] s
    else
      let s' := startAction s
      answer h .ok [s'.sound.player.code, toByte s'.sound.queue.length] s'
  else stage h cue keep .startSound false s

def execStartSound (h : ReqCtx) (cue : Byte) (keep : Bool) (s : State) : Host.Outcome State Fault Refusal :=
  .next (doStartSound h cue keep s)

/-- STOP_SOUND (R43, R132). -/
def doStopSound (h : ReqCtx) (arg cue : Byte) (keep : Bool) (s : State) : State :=
  match stopArgOf arg with
  | none => answer h .badArg [] s
  | some a =>
    if 15 < cue.toNat then answer h .badArg [] s
    else if cue = 0 then
      if s.fault.halted then answer h .faulted [] s
      else answer h .ok [s.sound.player.code] (s.withSound (stopAction a s.sound))
    else stage h cue keep (.stopSound a) false s

def execStopSound (h : ReqCtx) (arg cue : Byte) (keep : Bool) (s : State) : Host.Outcome State Fault Refusal :=
  .next (doStopSound h arg cue keep s)

/-- STAGE_SNAPSHOT (R45). -/
def doStageSnapshot (h : ReqCtx) (cue : Byte) (keep : Bool) (s : State) : State :=
  if 15 < cue.toNat then answer h .badArg [] s
  else if cue = 0 then answer h .ok (wordBytes s.cue.clock) (takeSnapshots s)
  else stage h cue keep .snapshot false s

def execStageSnapshot (h : ReqCtx) (cue : Byte) (keep : Bool) (s : State) : Host.Outcome State Fault Refusal :=
  .next (doStageSnapshot h cue keep s)

/-- STAGE_REARM (R45). -/
def doStageRearm (h : ReqCtx) (cue : Byte) (keep : Bool) (s : State) : State :=
  if 15 < cue.toNat then answer h .badArg [] s
  else if cue = 0 then answer h .ok [toByte (rearmableCount s)] (rearmAll s)
  else stage h cue keep .rearmAll false s

def execStageRearm (h : ReqCtx) (cue : Byte) (keep : Bool) (s : State) : Host.Outcome State Fault Refusal :=
  .next (doStageRearm h cue keep s)

/-! ## QUEUE_NOTES (R127, R128) -/

/-- What the start form of QUEUE_NOTES asks for (R127). -/
inductive StartForm where
  | now | later | onCue (n : Byte) (keep : Bool)
  deriving DecidableEq, Repr

/-- The start form, or none for one of no known kind or a cue number of 0 or above 15 (R127, R172). -/
def startFormOf (st : RawStart) : Option StartForm :=
  match st.form.toNat with
  | 0 => some .now
  | 1 => some .later
  | 2 => if 1 ≤ st.cue.toNat ∧ st.cue.toNat ≤ 15 then some (.onCue (st.cue.setWidth 8) st.keep) else none
  | _ => none

/-- The staging of START_SOUND for a start form, if it asks for one: none where the table is full (R127, R128). -/
def startPlace (f : StartForm) (t : List CueEntry) : Option (List CueEntry × List Byte) :=
  match f with
  | .onCue n keep =>
    match placeEntry { cue := n.toNat, action := .startSound, keep := keep } t with
    | some (t', pos) => some (t', [toByte pos, toByte t'.length])
    | none => none
  | _ => some (t, [])

/-- Every note brought within its ranges, or none where a waveform is of no known kind (R127). -/
def clampNotes (notes : List RawNote) : Option (List Note) :=
  if notes.all fun n => (waveformOf n.waveform).isSome then some (notes.filterMap clampNote) else none

/-- The notes that find room in the queue (R127). -/
def acceptNotes (queued : List Note) (notes : List Note) : List Note := notes.take (32 - queued.length)

/-- The start forms NOW, LATER and CUE once the notes are queued (R128); the CUE entry was placed with them. -/
def startAfterQueue (f : StartForm) (s : State) : State :=
  match f with
  | .now => startAction s
  | _ => s

/-- QUEUE_NOTES (R127, R128). -/
def doQueueNotes (h : ReqCtx) (start : RawStart) (notes : List RawNote) (s : State) : State :=
  if s.fault.halted then answer h .faulted [] s
  else match startFormOf start, clampNotes notes with
    | some f, some ns =>
      match startPlace f s.cue.table with
      | none => answer h .tableFull [] s
      | some (t, staging) =>
        let taken := acceptNotes s.sound.queue ns
        let q := s.sound.queue ++ taken
        let limited := notes.any noteLimited || decide (taken.length < ns.length)
        answer h (okOr limited) ([toByte taken.length, toByte q.length] ++ staging)
          (startAfterQueue f ((s.withSound (setArm { s.sound with queue := q })).withTable t))
    | _, _ => answer h .badArg [] s

def execQueueNotes (h : ReqCtx) (start : RawStart) (notes : List RawNote) (s : State) :
    Host.Outcome State Fault Refusal :=
  .next (doQueueNotes h start notes s)

/-! ## The requests of the cue unit (R39, R46, R47, R49) -/

/-- JOIN_GROUPS (R39). -/
def doJoinGroups (h : ReqCtx) (mask : Byte) (s : State) : State :=
  answer h .ok [s.cue.membership] { s with cue := { s.cue with membership := mask } }

def execJoinGroups (h : ReqCtx) (mask : Byte) (s : State) : Host.Outcome State Fault Refusal :=
  .next (doJoinGroups h mask s)

/-- SEND_CUE (R49, R22). -/
def doSendCue (h : ReqCtx) (mask cue : Byte) (s : State) : State :=
  if cue.toNat = 0 ∨ 15 < cue.toNat then answer h .badArg [] s
  else if s.standalone then answer h .ok [] (takeCueFrame [mask, cue] s)
  else
    let o := offer (.cueRequest h) [mask, cue] s
    if o.2 then o.1 else answer h .linkBusy [] o.1

def execSendCue (h : ReqCtx) (mask cue : Byte) (s : State) : Host.Outcome State Fault Refusal :=
  .next (doSendCue h mask cue s)

/-- The entries that stay after DROP_CUES of a cue number, 0 for every one (R46). -/
def undropped (cue : Nat) (t : List CueEntry) : List CueEntry := t.filter fun e => cue != 0 && e.cue != cue

/-- DROP_CUES (R46). -/
def doDropCues (h : ReqCtx) (cue : Byte) (s : State) : State :=
  if 15 < cue.toNat then answer h .badArg [] s
  else
    let t := undropped cue.toNat s.cue.table
    answer h .ok [toByte (s.cue.table.length - t.length)] (s.withTable t)

def execDropCues (h : ReqCtx) (cue : Byte) (s : State) : Host.Outcome State Fault Refusal :=
  .next (doDropCues h cue s)

/-- The four bytes of an entry in a LIST_CUES answer (R47, R174). -/
def entryBytes (pos : Nat) (e : CueEntry) : List Byte :=
  [toByte pos, toByte (e.cue + if e.keep then 128 else 0), toByte e.action.target, e.action.code]

/-- The entries that match a filter with their positions, from position `pos` on (R47). -/
def listEntries (filter pos : Nat) : List CueEntry → List (List Byte)
  | [] => []
  | e :: es =>
    if filter = 0 ∨ e.cue = filter then entryBytes pos e :: listEntries filter (pos + 1) es
    else listEntries filter (pos + 1) es

/-- LIST_CUES: the count first, then the entries (R47, R174). -/
def doListCues (h : ReqCtx) (filter : Byte) (s : State) : State :=
  if 15 < filter.toNat then answer h .badArg [] s
  else
    let l := listEntries filter.toNat 1 s.cue.table
    answer h .ok (toByte l.length :: l.flatten) s

def execListCues (h : ReqCtx) (filter : Byte) (s : State) : Host.Outcome State Fault Refusal :=
  .next (doListCues h filter s)

end Sys2Proof.Machine
end

