-- ==== Sys2Proof/Machine/Watches.lean ====
section
/-! DEFINITION. The watch unit: evaluation, actions, and its requests (R116 to R125). -/

namespace Sys2Proof.Machine

/-! ## Subjects and conditions (R116, R119, R120) -/

/-- An update that the owner of subjects hands the watch unit (R119). -/
inductive Update where
  | sensor (p : Fin 4)
  | mirror (k : Fin 16)
  | motor (c : Fin 4)
  | supply
  deriving DecidableEq, Repr

/-- A watch's subject is the one updated: a motor's update is of its position and of its speed (R119). -/
def Update.concerns (u : Update) (x : Subject) : Bool :=
  match u, x with
  | .sensor p, .sensor q _ => p == q
  | .mirror k, .mirror j => k == j
  | .motor c, .motorPosition d => c == d
  | .motor c, .motorSpeed d => c == d
  | .supply, .supply => true
  | _, _ => false

/-- The value of a subject (R116); none for a value number the record just written does not hold (R119). -/
def subjectValue (x : Subject) (s : State) : Option Word :=
  match x with
  | .sensor p n => (s.port p).reading.values[n]?
  | .mirror k => (s.entry k).map fun e => e.value
  | .motorPosition c => some (s.chan c).position
  | .motorSpeed c => some (toWord (s.chan c).speed)
  | .supply => some (toWord s.supply.vbat)

/-- The condition holds for a value (R120). -/
def conditionHolds (w : Watch) (v : Int) : Bool :=
  match w.condition with
  | .above => decide (w.hi.toInt < v)
  | .below => decide (v < w.lo.toInt)
  | .outside => decide (v < w.lo.toInt ∨ w.hi.toInt < v)
  | .inside => decide (w.lo.toInt ≤ v ∧ v ≤ w.hi.toInt)

/-- The release test of a FIRED watch, its bounds formed exactly (R120). -/
def releaseTest (w : Watch) (v : Int) : Bool :=
  let lo := w.lo.toInt
  let hi := w.hi.toInt
  let h : Int := w.hysteresis.toNat
  match w.condition with
  | .above => decide (v < hi - h)
  | .below => decide (lo + h < v)
  | .outside => decide (lo + h < v ∧ v < hi - h)
  | .inside => decide (v < lo - h ∨ hi + h < v)

/-! ## Actions (R122, R123) -/

/-- The watch unit offers its CUE frame; at a standalone station the frame is taken at once (R22, R122). -/
def watchCue (k : Fin 8) (mask cue : Byte) (s : State) : State :=
  if s.standalone then takeCueFrame [mask, cue] s
  else
    let o := offer (.cueWatch k) [mask, cue] s
    if o.2 then o.1 else raiseEvent .watchCueLost (toByte k.val) (cue.setWidth 32) o.1

/-- The action of a watch that has just become FIRED or TRIPPED (R122, R123). -/
def watchAct (k : Fin 8) (a : WatchAction) (s : State) : State :=
  match a with
  | .notify => s
  | .sendCue mask cue => watchCue k mask cue s
  | .stopSound => s.withSound (stopNow s.sound)
  | .tripBrake set => forEach (channelsOf set) (tripChannel k .brake) s
  | .tripCoast set => forEach (channelsOf set) (tripChannel k .coast) s
  | .fault => if otherFaultHeld k s then s else tellCondition srcWatch true s

/-- An action that latches (R123). -/
def WatchAction.latching : WatchAction → Bool
  | .tripBrake _ => true
  | .tripCoast _ => true
  | .fault => true
  | _ => false

/-- An ARMED watch whose condition holds for v: FIRED or TRIPPED, its event, then its action (R122, R123). -/
def watchFire (k : Fin 8) (w : Watch) (v : Word) (s : State) : State :=
  if w.action.latching then
    watchAct k w.action
      (raiseEvent .watchTripped (toByte k.val) v (s.setWatch k (some { w with state := .tripped, lastEval := true })))
  else
    watchAct k w.action
      (raiseEvent .watchFired (toByte k.val) v (s.setWatch k (some { w with state := .fired, lastEval := true })))

/-! ## Evaluation (R119, R121) -/

/-- Evaluate watch k, whose record is w, for a subject value (R120, R121). -/
def evaluate (k : Fin 8) (w : Watch) (v : Word) (s : State) : State :=
  if conditionHolds w v.toInt then
    match w.state with
    | .armed => watchFire k w v s
    | _ => s.setWatch k (some { w with lastEval := true })
  else
    match w.state with
    | .fired =>
      if releaseTest w v.toInt then s.setWatch k (some { w with state := .armed, lastEval := false })
      else s.setWatch k (some { w with lastEval := false })
    | _ => s.setWatch k (some { w with lastEval := false })

/-- Evaluate watch k at an update, if its subject is the one updated and has a value (R119). -/
def evaluateAt (u : Update) (k : Fin 8) (s : State) : State :=
  match s.watch k with
  | some w =>
    if u.concerns w.subject then
      match subjectValue w.subject s with
      | some v => evaluate k w v s
      | none => s
    else s
  | none => s

/-- An update handed to the watch unit: every watch of the subject, in index order (R119). -/
def watchUpdate (u : Update) (s : State) : State := forEach all8 (evaluateAt u) s

/-! ## Requests (R117, R118, R124) -/

/-- A MIRROR subject that names an unused listen entry (R117). -/
def subjectUnused (x : Subject) (s : State) : Bool :=
  match x with
  | .mirror k => (s.entry k).isNone
  | _ => false

/-- The record SET_WATCH's arguments give, or none for one of the refusals BAD_ARG (R117). -/
def watchRecord (w : RawWatch) (s : State) : Option Watch :=
  match subjectOf w.subject w.which w.valueNumber, conditionOf w.condition, actionOf w.action w.mask w.cue with
  | some x, some c, some a =>
    if subjectUnused x s then none
    else if w.hi.toInt < w.lo.toInt then none
    else some { state := .armed, subject := x, condition := c, lo := w.lo, hi := w.hi,
                hysteresis := w.hysteresis, action := a, lastEval := false }
  | _, _, _ => none

/-- A TRIPPED watch. -/
def isTripped (w : Option Watch) : Bool :=
  match w with
  | some w => w.state == .tripped
  | none => false

/-- SET_WATCH (R117). -/
def doSetWatch (h : ReqCtx) (index : Byte) (w : RawWatch) (s : State) : State :=
  match watchOf index, watchRecord w s with
  | some k, some x =>
    if isTripped (s.watch k) then answer h .busy [] s
    else answer h .ok [watchCode (s.watch k)] (s.setWatch k (some x))
  | _, _ => answer h .badArg [] s

def execSetWatch (h : ReqCtx) (index : Byte) (w : RawWatch) (s : State) : Host.Outcome State Fault Refusal :=
  .next (doSetWatch h index w s)

/-- The watches an index byte names: 0xFF is ALL, and above 7 none (R118, R124, R172). -/
def watchesOf (index : Byte) : Option (List (Fin 8)) :=
  if index = 0xFF then some all8 else (watchOf index).map fun k => [k]

/-- CLEAR_WATCH (R118). -/
def doClearWatch (h : ReqCtx) (index : Byte) (s : State) : State :=
  match watchesOf index with
  | some ks =>
    answer h .ok [toByte (ks.filter fun k => (s.watch k).isSome).length] (forEach ks clearWatch s)
  | none => answer h .badArg [] s

def execClearWatch (h : ReqCtx) (index : Byte) (s : State) : Host.Outcome State Fault Refusal :=
  .next (doClearWatch h index s)

/-- The FIRED or TRIPPED watches whose last evaluation is true, watch k in bit k (R124). -/
def blockedWatches (s : State) : Nat := sourceMask fun k => rearmBlocked (s.watch k)

/-- REARM of one watch (R124). -/
def rearmOne (h : ReqCtx) (k : Fin 8) (s : State) : State :=
  if rearmBlocked (s.watch k) then answer h .conditionTrue [] s
  else answer h .ok [if rearmable (s.watch k) then 1 else 0] (rearmIf k s)

/-- REARM of ALL (R124). -/
def rearmEvery (h : ReqCtx) (s : State) : State :=
  if blockedWatches s ≠ 0 then answer h .conditionTrue [toByte (blockedWatches s)] s
  else answer h .ok [toByte (rearmableCount s)] (rearmAll s)

/-- REARM (R124). -/
def doRearm (h : ReqCtx) (index : Byte) (s : State) : State :=
  if index = 0xFF then rearmEvery h s
  else match watchOf index with
    | some k => rearmOne h k s
    | none => answer h .badArg [] s

def execRearm (h : ReqCtx) (index : Byte) (s : State) : Host.Outcome State Fault Refusal := .next (doRearm h index s)

end Sys2Proof.Machine
end

