-- ==== Sys2Proof/Machine/Motion.lean ====
section
/-! DEFINITION. The motion computation: the stages of a control period (R77 to R92). -/

namespace Sys2Proof.Machine

/-! ## Stage 1: adoption (R65, R89, R90) -/

/-- A set speed beyond ±Vmax is replaced by the nearer limit (R65). -/
def clampSetSpeed (vmax : Nat) : ChanMode → ChanMode
  | .speed v => .speed (clampAbs vmax v)
  | m => m

/-- The pending set becomes the channel's parameters (R65); a stall counter above the new stall time is brought down
(R90). -/
def adoptParams (ch : Channel) : Channel :=
  match ch.pendingParams with
  | none => ch
  | some p =>
    lowerLimit p.limit { ch with
      params := p, pendingParams := none, mode := clampSetSpeed p.vmax ch.mode, stall := min ch.stall p.stallTime }

/-! ## Stage 2: measure (R79) -/

/-- The measured speed, and the history with the position just read (R79). -/
def measure (ch : Channel) : Channel :=
  { ch with
    speed := clampAbs 32767 (wrapDiff ch.position (ch.history.get 0)), history := shiftIn ch.history ch.position }

/-- Stage 2 with the update an ENCODED channel hands the watch unit (R69, R79). -/
def measureStage (c : Fin 4) (s : State) : State :=
  let s' := s.modChan c measure
  if (s.chan c).kind = .encoded then watchUpdate (.motor c) s' else s'

/-! ## Held periods (R78) -/

/-- The period is held (R78). -/
def heldPeriod (c : Fin 4) (s : State) : Bool :=
  let ch := s.chan c
  ch.mode.stopped || ch.haltFlag || ch.tripHolders != 0 || s.supply.state == .brownout

/-- What replaces stages 3 to 7 in a held period; u is 0 (R78). -/
def heldStage (ch : Channel) : Channel := { ch with settle := 0, integ := 0 }

/-! ## Stage 3: follow (R67, R68) -/

/-- The goal of a follow record for a source value: the quotient toward zero, as 32 bits, plus the offset (R67). -/
def goalOf (r : FollowRec) (x : Word) : Word := toWord (Int.tdiv (x.toInt * r.num) r.den) + r.offset

/-- FOLLOW_RECOMPUTE or SOURCE_STALE (R67, R68). -/
def followStage (c : Fin 4) (s : State) : State :=
  match (s.chan c).mode with
  | .follow r _ =>
    match readSource r.source s with
    | .value x => s.modChan c fun ch => { ch with mode := .follow r (goalOf r x), lapse := false }
    | .lapse cause =>
      if (s.chan c).lapse then s
      else raiseEvent .sourceStale (toByte c.val) (toWord cause) (s.modChan c fun ch => { ch with lapse := true })
  | _ => s

/-! ## Stage 4: profile (R80 to R82) -/

/-- The goal of a position-controlled mode. -/
def ChanMode.goal : ChanMode → Option Word
  | .position g => some g
  | .hold g => some g
  | .follow _ g => some g
  | _ => none

/-- The distance D from target to goal in eighths, clamped to ±2^28 (R80). -/
def distance (goal tc : Word) (tf : Nat) : Int := clampAbs 268435456 (8 * wrapDiff goal tc - tf)

/-- The stopping bound B(x) for an acceleration a (R81). -/
def stopBound (a x : Nat) : Nat := if a < x then x * (x - a) / (2 * a) else 0

/-- The number m with the sign of d. -/
def withSign (d : Int) (m : Nat) : Int := if d < 0 then -(m : Int) else (m : Int)

/-- The magnitude chosen in the normal case (R81): `m` is the present one, `dist` the magnitude of D. -/
def chooseSpeed (a vmax m dist : Nat) : Nat :=
  if vmax < m then max (m - a) vmax
  else if m + a + stopBound a (m + a) ≤ dist ∧ m + a ≤ vmax then m + a
  else if m + stopBound a m ≤ dist then m
  else m - a

/-- The opposing or overshooting case (R80). -/
def opposing (d v : Int) : Bool := decide (v ≠ 0) && (decide (d = 0) || decide (d < 0 ∧ 0 < v) || decide (0 < d ∧ v < 0))

/-- The new profile speed (R80, R81). -/
def profileSpeed (a vmax : Nat) (d v : Int) : Int :=
  if opposing d v then withSign v (v.natAbs - a)
  else withSign d (min (chooseSpeed a vmax v.natAbs d.natAbs) d.natAbs)

/-- The target advances by v eighths, the carry with floor semantics (R82). -/
def advance (v : Int) (ch : Channel) : Channel :=
  let sum := (ch.tf : Int) + v
  { ch with v := v, tc := ch.tc + toWord (sum / 8), tf := (sum % 8).toNat }

/-- Stage 4 of a position-controlled mode (R80 to R82). -/
def profileStage (ch : Channel) : Channel :=
  match ch.mode.goal with
  | some g => advance (profileSpeed ch.params.acc ch.params.vmax (distance g ch.tc ch.tf) ch.v) ch
  | none => ch

/-! ## Stage 5: settle (R70) -/

/-- The profile is DONE (R82). -/
def profileDone (goal : Word) (ch : Channel) : Bool := ch.tc == goal && ch.tf == 0 && ch.v == 0

/-- The two conditions of a settled period (R70). -/
def settled (goal : Word) (ch : Channel) : Bool :=
  profileDone goal ch && decide ((wrapDiff goal ch.position).natAbs ≤ ch.params.tolerance)

/-- The settle counter and MOVE_DONE, in POSITION (R70). -/
def settleStage (c : Fin 4) (s : State) : State :=
  let ch := s.chan c
  match ch.mode with
  | .position g =>
    let n := if settled g ch then min 20 (ch.settle + 1) else 0
    if n = 20 ∧ ch.moveDone = false then
      raiseEvent .moveDone (toByte c.val) ch.position (s.setChan c { ch with settle := n, moveDone := true })
    else s.setChan c { ch with settle := n }
  | _ => s

/-! ## Stages 6 and 7: reference, regulator, open drive (R83 to R86) -/

/-- The reference in the position-controlled modes (R83). -/
def trackRef (ch : Channel) : Int :=
  let e := clampAbs 1048576 (8 * wrapDiff ch.tc ch.position + ch.tf)
  clampAbs (2 * ch.params.vmax) (ch.v + Int.tdiv (ch.params.kx * e) 128)

/-- The reference in SPEED: toward the set speed by at most A (R84). -/
def rampRef (a : Nat) (set r : Int) : Int :=
  if (set - r).natAbs ≤ a then set else if r < set then r + a else r - a

/-- Stage 6 (R83, R84). -/
def refStage (ch : Channel) : Channel :=
  match ch.mode with
  | .speed set => { ch with ref := rampRef ch.params.acc set ch.ref }
  | .position _ => { ch with ref := trackRef ch }
  | .hold _ => { ch with ref := trackRef ch }
  | .follow _ _ => { ch with ref := trackRef ch }
  | _ => ch

/-- Two numbers of the same sign; 0 has none (R85). -/
def sameSign (a b : Int) : Bool := decide (0 < a ∧ 0 < b) || decide (a < 0 ∧ b < 0)

/-- The regulator: the integrator kept or taken, and u (R85). -/
def regulate (ch : Channel) : Int × Int :=
  let e := clampAbs 32767 (ch.ref - ch.speed)
  let trial := clampAbs 256000 (ch.integ + ch.params.ki * e)
  let u' := Int.tdiv (ch.params.kp * e + trial) 256
  let i := if ch.leff < u'.natAbs ∧ sameSign e u' = true then ch.integ else trial
  (i, clampAbs ch.leff (Int.tdiv (ch.params.kp * e + i) 256))

/-- The open drive: dset with supply compensation (R86). -/
def openDuty (leff : Nat) (dset : Int) (vbat : Nat) : Int :=
  clampAbs leff (Int.tdiv (dset * 7200) (max vbat 3600 : Nat))

/-- Stage 7: the channel with its integrator, and u (R85, R86). -/
def driveStage (vbat : Nat) (ch : Channel) : Channel × Int :=
  match ch.mode with
  | .openDrive d => (ch, openDuty ch.leff d vbat)
  | .coast => (ch, 0)
  | .brake => (ch, 0)
  | _ => let r := regulate ch; ({ ch with integ := r.1 }, r.2)

/-- Stages 3 to 7 of a period that is not held: the state and u (R77). -/
def driveStages (c : Fin 4) (s : State) : State × Int :=
  let s := settleStage c ((followStage c s).modChan c profileStage)
  let r := driveStage s.supply.vbat (refStage (s.chan c))
  (s.setChan c r.1, r.2)

/-! ## Stage 8: foldback and stall (R87, R88, R90, R91) -/

/-- The floor of Leff (R88). -/
def floorOf (ceil : Nat) : Nat := min 100 ceil

/-- Leff moved by the current between ceiling and floor, and never raised by a current above Ilim (R88): an Leff that a
lowered limit left below the floor is kept (log entry 26). -/
def foldback (i ceil : Nat) (ch : Channel) : Nat :=
  if ch.params.ilim < i then min ceil (min ch.leff (max (ch.leff - 50) (floorOf ceil))) else min ceil (ch.leff + 10)

/-- A period of stall, with Leff as the stage set it: at the floor, not below it (R90, log entry 26). -/
def stallPeriod (i ceil leff : Nat) (ch : Channel) : Bool :=
  decide (ch.params.ilim < i) && decide (leff = floorOf ceil)
    && (ch.kind == .plain || decide (ch.speed.natAbs < 4))

/-- The channel's part of stage 8 (R88, R90). -/
def limitStage (i : Nat) (sag : Bool) (ch : Channel) : Channel :=
  let ceil := ceiling sag ch
  let leff := foldback i ceil ch
  { ch with leff := leff, stall := if stallPeriod i ceil leff ch then min ch.params.stallTime (ch.stall + 1) else 0 }

/-- Stage 8: Leff, the stall counter, and the STALL condition told to the fault unit (R87, R91). -/
def foldbackStage (c : Fin 4) (current : Nat) (s : State) : State :=
  let s := s.modChan c (limitStage (min 4000 current) (s.supply.state == .sag))
  tellCondition (srcStall c) (decide ((s.chan c).stall = (s.chan c).params.stallTime)) s

/-! ## Stage 9: output (R92) -/

/-- The output stage for u as stage 8 left it (R92). -/
def outputStage (u : Int) (ch : Channel) : Channel :=
  let d := if ch.mode.stopped then 0 else u
  { ch with duty := d, nextC := compareOf d, nextDir := dirOf d ch.nextDir }

/-! ## The whole period (R77) -/

/-- Stages 1 and 2. -/
def sampleStages (c : Fin 4) (s : State) : State := measureStage c (s.modChan c adoptParams)

/-- Stages 3 to 7, or what replaces them in a held period: the state and u (R77, R78). -/
def middleStages (c : Fin 4) (s : State) : State × Int :=
  if heldPeriod c s then (s.modChan c heldStage, 0) else driveStages c s

/-- Stages 8 and 9: u is clamped to the Leff the foldback leaves before the output takes it (R88, R92). -/
def outputStages (c : Fin 4) (current : Nat) (r : State × Int) : State :=
  let s := foldbackStage c current r.1
  s.modChan c (outputStage (clampAbs (s.chan c).leff r.2))

/-- One control period of a channel (R77). -/
def controlPeriod (c : Fin 4) (current : Nat) (s : State) : State :=
  outputStages c current (middleStages c (sampleStages c s))

/-- CONTROL_PERIOD_EXPIRY: the timer starts at the end of the reset (R77). -/
def execControlPeriodExpiry (c : Fin 4) (current : Nat) (s : State) : Host.Outcome State Fault Refusal :=
  .next (if s.inReset then s else controlPeriod c current s)

end Sys2Proof.Machine
end

