-- ==== Sys2Proof/Machine/Publish.lean ====
section
/-! DEFINITION. The publication unit: items, the publish set and its timer, the listen table and its mirrors (R24 to R36). -/

namespace Sys2Proof.Machine

/-! ## Items (R24, R25) -/

/-- The pattern called "no value" (R25). -/
def noValue : Word := 0x80000000#32

/-- A true value as it is sent: the pattern of "no value" goes one count higher (R25). -/
def sentValue (v : Word) : Word := if v = noValue then 0x80000001#32 else v

/-- One value of a record that may be not valid (R24, R25). -/
def recordValue (valid : Bool) (values : List Word) (n : Nat) : Option Word := if valid then values[n]? else none

/-- The watch states item: one bit for each watch FIRED or TRIPPED (R24). -/
def watchStatesItem (s : State) : Nat :=
  sourceMask fun k => match s.watch k with
    | some w => w.acted
    | none => false

/-- A channel of an item index. -/
def chanIx (i : Nat) : Fin 4 := Fin.ofNat 4 i

/-- The value of an item at the moment of sampling; none where it has no value (R24, R25). The index of kinds 3 and 4 is
(p - 1) × 4 + n. -/
def itemValue (code : Byte) (s : State) : Option Word :=
  let kind := code.toNat / 16
  let index := code.toNat % 16
  match kind with
  | 1 => if (s.chan (chanIx index)).kind = .plain then none else some (s.chan (chanIx index)).position
  | 2 => if (s.chan (chanIx index)).kind = .plain then none else some (toWord (s.chan (chanIx index)).speed)
  | 3 =>
    let r := (s.port (chanIx (index / 4))).reading
    recordValue r.valid r.values (index % 4)
  | 4 =>
    let r := (s.port (chanIx (index / 4))).snapshot
    recordValue r.valid r.values (index % 4)
  | 5 => some (toWord s.supply.vbat)
  | 6 => some (toWord (watchStatesItem s))
  | 7 => some (if s.fault.halted then 1 else 0)
  | _ => none

/-- The 32 bits sent for an item (R25). -/
def itemWord (code : Byte) (s : State) : Word :=
  match itemValue code s with
  | some v => sentValue v
  | none => noValue

/-- The payload of a PUBLISH frame (R27, R173). -/
def publishPayload (items : List Byte) (s : State) : List Byte :=
  items.flatMap fun c => c :: wordBytes (itemWord c s)

/-! ## The publish set (R26, R27) -/

/-- A period that SET_PUBLISH takes: 0, or a multiple of 10 from 10 to 1000 (R26). -/
def publishPeriodOk (p : Nat) : Bool := decide (p = 0) || decide (10 ≤ p ∧ p ≤ 1000 ∧ p % 10 = 0)

/-- The positions of a list, counted from `i`, at which a test of the earlier items and the item holds. -/
def positionsWhere (test : List Byte → Byte → Bool) (seen : List Byte) (i : Nat) : List Byte → List Nat
  | [] => []
  | c :: cs =>
    if test seen c then i :: positionsWhere test (seen ++ [c]) (i + 1) cs
    else positionsWhere test (seen ++ [c]) (i + 1) cs

/-- The positions check 2 to 4 of SET_PUBLISH refuses: the first of the checks that refuses any (R26). -/
def refusedPositions (items : List Byte) : List Nat :=
  let tooMany := positionsWhere (fun seen _ => decide (8 ≤ seen.length)) [] 0 items
  let invalid := positionsWhere (fun _ c => !validItem c) [] 0 items
  let doubled := positionsWhere (fun seen c => seen.contains c) [] 0 items
  if tooMany ≠ [] then tooMany else if invalid ≠ [] then invalid else doubled

/-- A publish timer started at a period, or stopped for a period of 0. -/
def publishStart (period : Nat) : Option Nat := if period = 0 then none else some period

/-- A passed SET_PUBLISH: the set waits for the running timer's expiry, or is adopted at once (R26). -/
def acceptSet (x : PublishSet) (u : PublishUnit) : PublishUnit :=
  match u.timer with
  | some _ => { u with pendingSet := some x }
  | none => { current := x, pendingSet := none, timer := publishStart x.period }

/-- SET_PUBLISH (R26). -/
def doSetPublish (h : ReqCtx) (period : Half) (items : List Byte) (s : State) : State :=
  if !publishPeriodOk period.toNat then answer h .badArg [] s
  else
    let bad := refusedPositions items
    if bad ≠ [] then answer h .badArg (toByte bad.length :: bad.map toByte) s
    else answer h .ok [] { s with publish := acceptSet { items := items, period := period.toNat } s.publish }

def execSetPublish (h : ReqCtx) (period : Half) (items : List Byte) (s : State) : Host.Outcome State Fault Refusal :=
  .next (doSetPublish h period items s)

/-- The pending set becomes the current one, if one is held (R27). -/
def adoptSet (u : PublishUnit) : PublishUnit :=
  match u.pendingSet with
  | some x => { u with current := x, pendingSet := none }
  | none => u

/-- An expiry of the publish timer (R27). -/
def publishExpiry (s : State) : State :=
  let u := adoptSet s.publish
  let s' := { s with publish := { u with timer := publishStart u.current.period } }
  if u.current.period = 0 then s' else (offer .publish (publishPayload u.current.items s') s').1

/-- PUBLISH_TIMER_EXPIRY: of a timer that has run out (R27, log entry 7). -/
def execPublishTimerExpiry (s : State) : Host.Outcome State Fault Refusal :=
  .next (if ranOut s.publish.timer then publishExpiry s else s)

/-! ## The listen table (R30, R31, R35) -/

/-- The entry stops being FRESH: it keeps its value, its timer stops, MIRROR_STALE is raised (R34, R35). -/
def goStale (k : Fin 16) (e : ListenEntry) (why : Word) (s : State) : State :=
  raiseEvent .mirrorStale (toByte k.val) why (s.setEntry k (some { e with state := .stale, age := none }))

/-- A FRESH entry whose age has reached its stale limit (R30, R35). -/
def limitReached (e : ListenEntry) : Bool :=
  match e.state, e.age with
  | .fresh, some a => decide (e.limit ≤ a)
  | _, _ => false

/-- AGE_TIMER_EXPIRY: of a FRESH entry whose age has reached its limit; one whose timer a frame has just restarted does not
expire (R35, log entry 7). -/
def execAgeTimerExpiry (k : Fin 16) (s : State) : Host.Outcome State Fault Refusal :=
  .next (match s.entry k with
    | some e => if limitReached e then goStale k e 1 s else s
    | none => s)

/-- An entry made anew (R30). -/
def newEntry (source : BitVec 4) (item : Byte) (limit : Nat) : ListenEntry :=
  { source := source, item := item, limit := limit, value := 0, state := .never, age := none }

/-- A station and item held by a used entry at another index (R30). -/
def heldElsewhere (k : Fin 16) (source : BitVec 4) (item : Byte) (s : State) : Bool :=
  all16.any fun j => j != k && match s.entry j with
    | some e => e.source == source && e.item == item
    | none => false

/-- The answer of a SET_LISTEN that was taken: the mirror's state and value as they stand (R30). -/
def answerMirror (h : ReqCtx) (limited : Bool) (k : Fin 16) (s : State) : State :=
  match s.entry k with
  | some e => answer h (okOr limited) (e.state.code :: wordBytes e.value) s
  | none => s

/-- A new stale limit for a used entry: a FRESH entry whose age reaches it expires at once (R30). -/
def newLimit (k : Fin 16) (e : ListenEntry) (limit : Nat) (s : State) : State :=
  let e' := { e with limit := limit }
  if limitReached e' then goStale k e' 1 s else s.setEntry k (some e')

/-- SET_LISTEN after its checks (R30). -/
def setListenAt (h : ReqCtx) (k : Fin 16) (source : BitVec 4) (item : Byte) (limit : Nat) (limited : Bool) (s : State) :
    State :=
  match s.entry k with
  | none => answerMirror h limited k (s.setEntry k (some (newEntry source item limit)))
  | some e =>
    if e.source = source ∧ e.item = item then answerMirror h limited k (newLimit k e limit s)
    else if s.useCount k = 0 then answerMirror h limited k (s.setEntry k (some (newEntry source item limit)))
    else answer h .inUse [] s

/-- SET_LISTEN (R30). -/
def doSetListen (h : ReqCtx) (index source item : Byte) (limit : Half) (s : State) : State :=
  match listenOf index with
  | none => answer h .badArg [] s
  | some k =>
    if source.toNat < 1 ∨ 14 < source.toNat ∨ source = s.ownByte then answer h .badArg [] s
    else if !validItem item then answer h .badArg [] s
    else if heldElsewhere k (source.setWidth 4) item s then answer h .inUse [] s
    else
      let lim := clampN 20 2000 limit.toNat
      setListenAt h k (source.setWidth 4) item lim (lim != limit.toNat) s

def execSetListen (h : ReqCtx) (index source item : Byte) (limit : Half) (s : State) :
    Host.Outcome State Fault Refusal :=
  .next (doSetListen h index source item limit s)

/-- DROP_LISTEN (R31). -/
def doDropListen (h : ReqCtx) (index : Byte) (s : State) : State :=
  match listenOf index with
  | none => answer h .badArg [] s
  | some k =>
    match s.entry k with
    | none => answer h .ok [] s
    | some _ => if s.useCount k = 0 then answer h .ok [] (s.setEntry k none) else answer h .inUse [] s

def execDropListen (h : ReqCtx) (index : Byte) (s : State) : Host.Outcome State Fault Refusal :=
  .next (doDropListen h index s)

/-! ## Mirrors (R32 to R34) -/

/-- The entries of a PUBLISH payload, or none for a length that is not a multiple of 5 (R32). -/
def publishEntries : List Byte → Option (List (Byte × Word))
  | [] => some []
  | c :: a :: b :: d :: e :: rest => (publishEntries rest).map ((c, word a b d e) :: ·)
  | _ => none

/-- The item code of a payload entry appears only once (R32). -/
def distinctItems (es : List (Byte × Word)) : Bool := decide (es.map Prod.fst).Nodup

/-- The value a payload carries for an item. -/
def valueFor (item : Byte) (es : List (Byte × Word)) : Option Word :=
  (es.find? fun e => e.1 == item).map Prod.snd

/-- A listen entry takes a published value, and the watch unit is handed the update (R33). -/
def takeValue (k : Fin 16) (e : ListenEntry) (v : Word) (s : State) : State :=
  let s' := s.setEntry k (some { e with value := v, state := .fresh, age := some 0 })
  watchUpdate (.mirror k) (if e.state = .stale then raiseEvent .mirrorFresh (toByte k.val) v s' else s')

/-- A published "no value" for a listen entry (R34). -/
def takeNoValue (k : Fin 16) (e : ListenEntry) (s : State) : State :=
  match e.state with
  | .fresh => goStale k e 2 s
  | _ => s

/-- What a delivered PUBLISH frame does to listen entry k (R32). -/
def mirrorStep (sender : BitVec 4) (es : List (Byte × Word)) (k : Fin 16) (s : State) : State :=
  match s.entry k with
  | some e =>
    if e.source = sender then
      match valueFor e.item es with
      | some v => if v = noValue then takeNoValue k e s else takeValue k e v s
      | none => s
    else s
  | none => s

/-- PUBLISH_TAKEN: a PUBLISH frame delivered from another station (R32). -/
def takePublish (sender : BitVec 4) (payload : List Byte) (s : State) : State :=
  match publishEntries payload with
  | some es => if distinctItems es then forEach all16 (mirrorStep sender es) s else s
  | none => s

end Sys2Proof.Machine
end

