-- ==== Sys2Proof/Machine/Sensors.lean ====
section
/-! DEFINITION. Sensor ports: detection, passive sensors, rate finding, messages, description, readings, switching (R97 to
R115, R177). -/

namespace Sys2Proof.Machine

/-! ## Shared steps -/

/-- Raise an event of a port, its number as subject (6.1). -/
def portEvent (kind : EventKind) (p : Fin 4) (arg : Word) (s : State) : State := raiseEvent kind (portNumber p) arg s

/-- Serial activity ends: what is sent is cut off and every serial timer stops (R98, R108, R114). -/
def endSerial (x : Port) : Port :=
  { x with tx := [], measuring := none, run := none, fixedRate := none, descTimer := none, silenceTimer := none,
           switchTimer := none, nudgeTimer := none, switch := none }

/-- The reading record is made not valid with an empty value list; it keeps its mode and age (R112). -/
def voidReading (x : Port) : Port := { x with reading := { x.reading with valid := false, values := [] } }

/-- The port enters SYNCING with no run, its descriptor and current mode empty, its consecutive bad count cleared (R101,
R105, R108). -/
def enterSyncing (x : Port) : Port :=
  { voidReading (endSerial x) with state := .syncing, descriptor := none, currentMode := none, consecBad := 0 }

/-- SENSOR_LOST if the ready mark is set, and the mark cleared (R98, R108). -/
def loseReady (p : Fin 4) (why : Word) (s : State) : State :=
  if (s.port p).ready then portEvent .sensorLost p why (s.modPort p fun x => { x with ready := false }) else s

/-- The port puts a message on its transmit line, behind those that fell due before it (R104). -/
def send (m : SensorTx) (x : Port) : Port := { x with tx := x.tx ++ [m] }

/-- The bytes of what a port sends: SELECT is kind 5, NUDGE kind 6; the acknowledge is one character (R177). -/
def SensorTx.bytes : SensorTx → List Byte
  | .acknowledge => [0x3C]
  | .select m => [0xA1, toByte m, sensorCheck [0xA1, toByte m]]
  | .nudge => [0xC0, sensorCheck [0xC0]]

/-- The transmit line of a port: the message that fell due first, at the fixed rate; idle while nothing waits (R102, R104). -/
def Port.line (x : Port) : SerialLine :=
  match x.fixedRate, x.tx with
  | some r, m :: _ => .sending r.bps (m.bytes.map sentByte)
  | _, _ => .idle

/-! ## Detection (R97, R98) -/

/-- The band of a detect voltage in mV (R97). -/
def bandOf (mv : Nat) : Band :=
  if 4500 < mv then .empty
  else if 3000 ≤ mv then .generic
  else if 1500 ≤ mv then .light
  else if 200 ≤ mv then .touch
  else .smart

/-- The port state of a band (R97). -/
def Band.state : Band → PortState
  | .empty => .empty
  | .generic => .analog
  | .light => .analog
  | .touch => .analog
  | .smart => .syncing

/-- The port enters the state of a new settled band: steps 2 to 6 of a band change (R98). -/
def enterBand (b : Band) (x : Port) : Port :=
  { voidReading (endSerial x) with
    state := b.state, settled := b, candidate := none, debounce := 0, descriptor := none, currentMode := none,
    consecBad := 0, window := [] }

/-- One detect sample (R97), with the band change it may bring (R98). -/
def detectStep (p : Fin 4) (b : Band) (s : State) : State :=
  let x := s.port p
  if b = x.settled then s.setPort p { x with candidate := none, debounce := 0 }
  else
    let n := if x.candidate = some b then x.debounce + 1 else 1
    if 20 ≤ n then (loseReady p 3 s).modPort p (enterBand b)
    else s.setPort p { x with candidate := some b, debounce := n }

/-- DETECT_SAMPLE: sampling starts at the end of the reset (R97, R115). -/
def execDetectSample (p : Fin 4) (mv : Nat) (s : State) : Host.Outcome State Fault Refusal :=
  .next (if s.inReset then s else detectStep p (bandOf mv) s)

/-! ## Passive sensors (R99, R100) -/

/-- The window with a new sample: the most recent 8 (R99). -/
def windowStep (mv : Nat) (w : List Nat) : List Nat :=
  (if w.length < 8 then w else w.drop 1) ++ [min 5000 mv]

/-- The mean of a full window, rounded down (R99). -/
def windowMean (w : List Nat) : Nat := w.sum / 8

/-- The value of a TOUCH sensor (R100): `old` is none at the sample that fills the window. -/
def touchValue (mean : Nat) (old : Option Word) : Word :=
  if 3500 < mean then 1
  else match old with
    | none => 0
    | some v => if mean < 1500 then 0 else v

/-- The passive value of a band (R100). -/
def passiveValue (b : Band) (mean : Nat) (old : Option Word) : Word :=
  match b with
  | .touch => touchValue mean old
  | _ => toWord mean

/-- The argument of SENSOR_READY: type code in bits 15 to 8, mode count in bits 7 to 0 (R99, R110, R172). -/
def readyArg (typeCode : Byte) (modes : Nat) : Word := toWord (typeCode.toNat * 256 + modes)

/-- One analog sample of a port in ANALOG (R99, R100). -/
def analogStep (p : Fin 4) (mv : Nat) (s : State) : State :=
  let x := s.port p
  let w := windowStep mv x.window
  if w.length < 8 then s.setPort p { x with window := w }
  else
    let fills := decide (x.window.length < 8)
    let old := if fills then none else x.reading.values.head?
    let r : Reading := { valid := true, mode := 0, values := [passiveValue x.settled (windowMean w) old], age := 0 }
    watchUpdate (.sensor p)
      (if fills then
        portEvent .sensorReady p (readyArg x.settled.typeCode 0)
          (s.setPort p { x with window := w, reading := r, ready := true })
      else s.setPort p { x with window := w, reading := r })

/-- ANALOG_SAMPLE: it acts in ANALOG (R99). -/
def execAnalogSample (p : Fin 4) (mv : Nat) (s : State) : Host.Outcome State Fault Refusal :=
  .next (if (s.port p).state = .analog then analogStep p mv s else s)

/-! ## Finding the rate (R101, R102) -/

/-- A port in SYNCING whose rate is not yet fixed. -/
def Port.finding (x : Port) : Bool := x.state == .syncing && x.fixedRate.isNone

/-- FIRST_FALLING_EDGE: with no measurement in progress it begins one and its 5 ms limit (R101). -/
def execFirstFallingEdge (p : Fin 4) (s : State) : Host.Outcome State Fault Refusal :=
  .next (if (s.port p).finding && (s.port p).measuring.isNone then s.modPort p fun x => { x with measuring := some 5 }
    else s)

/-- A measured time in ns lies within 3 per cent of 8 bits at a rate (R102), compared exactly. -/
def snapsTo (ns : Nat) (r : SensorRate) : Bool :=
  decide (97 * 8000000000 ≤ 100 * (ns * r.bps) ∧ 100 * (ns * r.bps) ≤ 103 * 8000000000)

/-- The rate a measured time snaps to (R102). -/
def snapRate (ns : Nat) : Option SensorRate :=
  [SensorRate.r2400, .r9600, .r19200, .r57600, .r115200].find? (snapsTo ns)

/-- A measurement that ends at its fifth edge (R102). -/
def rateStep (ns : Nat) (x : Port) : Port :=
  match snapRate ns with
  | none => { x with measuring := none, run := none }
  | some r =>
    if x.run = some r then send .acknowledge { x with measuring := none, run := some r, fixedRate := some r }
    else { x with measuring := none, run := some r }

/-- RATE_MEASUREMENT: of a measurement in progress in SYNCING (R101, R102). -/
def execRateMeasurement (p : Fin 4) (ns : Nat) (s : State) : Host.Outcome State Fault Refusal :=
  .next (if (s.port p).finding && (s.port p).measuring.isSome then s.modPort p (rateStep ns) else s)

/-- RATE_MEASUREMENT_TIMEOUT: a measurement whose 5 ms have run out is discarded, which ends the run (R101, R102, log entry
7). -/
def execRateMeasurementTimeout (p : Fin 4) (s : State) : Host.Outcome State Fault Refusal :=
  .next (if (s.port p).finding && ranOut (s.port p).measuring then
      s.modPort p fun x => { x with measuring := none, run := none }
    else s)

/-- ACKNOWLEDGE_SENT: the port enters DESCRIBING and starts the description timer (R102, R105). -/
def execAcknowledgeSent (p : Fin 4) (s : State) : Host.Outcome State Fault Refusal :=
  .next (if (s.port p).state = .syncing ∧ (s.port p).tx.head? = some .acknowledge then
      s.modPort p fun x => { x with state := .describing, tx := x.tx.drop 1, descTimer := some 1000 }
    else s)

/-! ## Descriptions (R105, R106) -/

/-- The modes a DESCRIBE body lists, three bytes each; none if any is ill formed (R105, R177). -/
def modesOf : List Byte → Option (List ModeDesc)
  | [] => some []
  | c :: f :: e :: rest =>
    match formatOf f with
    | some fmt =>
      if 1 ≤ c.toNat ∧ c.toNat ≤ 4 ∧ -4 ≤ e.toInt ∧ e.toInt ≤ 4 then
        (modesOf rest).map ({ count := c.toNat, format := fmt, scale := e.toInt } :: ·)
      else none
    | none => none
  | _ => none

/-- The descriptor of a DESCRIBE body, or none for an ill-formed one (R105, R106). -/
def descriptorOf : List Byte → Option Descriptor
  | t :: m :: rest =>
    if 1 ≤ m.toNat ∧ m.toNat ≤ 8 ∧ rest.length = 3 * m.toNat then
      (modesOf rest).map fun ms => { typeCode := t, modes := ms }
    else none
  | _ => none

/-- A well-formed DESCRIBE: the descriptor stored, SWITCHING toward mode 0, SELECT and the three timers (R104, R105, R108,
R111). -/
def enterIdentification (d : Descriptor) (x : Port) : Port :=
  send (.select 0) { x with
    state := .switching, descriptor := some d, descTimer := none, currentMode := none,
    switch := some { oldMode := none, newMode := 0 }, switchTimer := some 250, silenceTimer := some 300,
    nudgeTimer := some 100 }

/-- A failed identification returns the port to SYNCING (R105, R111). -/
def failIdentification (p : Fin 4) (why : Word) (s : State) : State :=
  portEvent .sensorIdFailed p why (s.modPort p enterSyncing)

/-- A good DESCRIBE in DESCRIBING (R105). -/
def useDescribe (p : Fin 4) (body : List Byte) (s : State) : State :=
  match descriptorOf body with
  | some d => s.modPort p (enterIdentification d)
  | none => failIdentification p 2 s

/-! ## Readings (R107, R110) -/

/-- One value of a format, sign-extended to 32 bits; none if the body is too short (R106). -/
def valueOf (f : Format) (bs : List Byte) : Option (Word × List Byte) :=
  match f, bs with
  | .s8, a :: rest => some (a.signExtend 32, rest)
  | .s16, a :: b :: rest => some ((half a b).signExtend 32, rest)
  | .s32, a :: b :: c :: d :: rest => some (word a b c d, rest)
  | _, _ => none

/-- `n` values of a format that fill the body exactly (R103, R106). -/
def valuesOf (f : Format) : Nat → List Byte → Option (List Word)
  | 0, [] => some []
  | 0, _ => none
  | n + 1, bs =>
    match valueOf f bs with
    | some (v, rest) => (valuesOf f n rest).map (v :: ·)
    | none => none

/-- The mode number and values of a VALUES body, by the descriptor; none for one that is counted bad (R103). -/
def readingOf (d : Option Descriptor) (body : List Byte) : Option (Nat × List Word) :=
  match d, body with
  | some d, m :: rest =>
    match d.modes[m.toNat]? with
    | some md => (valuesOf md.format md.count rest).map fun vs => (m.toNat, vs)
    | none => none
  | _, _ => none

/-- The reading record is written and made valid, its age and the silence timer restarted (R107). -/
def writeReading (mode : Nat) (vs : List Word) (x : Port) : Port :=
  { x with reading := { valid := true, mode := mode, values := vs, age := 0 }, silenceTimer := some 300 }

/-- The type code and mode count of a descriptor, for SENSOR_READY (R110). -/
def describedArg (d : Option Descriptor) : Word :=
  match d with
  | some d => readyArg d.typeCode d.modes.length
  | none => 0

/-- A VALUES message in the new mode completes the switch (R110). -/
def completeSwitch (p : Fin 4) (sw : Switch) (vs : List Word) (s : State) : State :=
  let s' := s.modPort p fun x =>
    { writeReading sw.newMode vs x with
      state := .streaming, currentMode := some sw.newMode, switch := none, switchTimer := none }
  match sw.oldMode with
  | some _ => watchUpdate (.sensor p) (portEvent .modeSet p (toWord sw.newMode) s')
  | none =>
    watchUpdate (.sensor p) (portEvent .sensorReady p (describedArg (s.port p).descriptor)
      (s'.modPort p fun x => { x with ready := true }))

/-- A VALUES message taken in the current or old mode (R107). -/
def takeReading (p : Fin 4) (mode : Nat) (vs : List Word) (s : State) : State :=
  watchUpdate (.sensor p) (s.modPort p (writeReading mode vs))

/-- A good VALUES message used by the port's state (R107, R110). -/
def useValues (p : Fin 4) (mode : Nat) (vs : List Word) (s : State) : State :=
  let x := s.port p
  match x.state, x.switch with
  | .streaming, _ => if x.currentMode = some mode then takeReading p mode vs s else s
  | .switching, some sw =>
    if mode = sw.newMode then completeSwitch p sw vs s
    else if sw.oldMode = some mode then takeReading p mode vs s
    else s
  | _, _ => s

/-! ## Messages judged (R103, R105, R108) -/

/-- A port that receives messages (R103). -/
def Port.receives (x : Port) : Bool := x.state == .describing || x.state == .switching || x.state == .streaming

/-- The port loses its sensor (R108). -/
def loseSensor (p : Fin 4) (why : Word) (s : State) : State := (loseReady p why s).modPort p enterSyncing

/-- The consecutive bad count has reached 8 (R103, R105, R108). -/
def eightBad (p : Fin 4) (s : State) : State :=
  if (s.port p).state = .describing then failIdentification p 3 s else loseSensor p 2 s

/-- A bad message is counted (R103). -/
def badMessage (p : Fin 4) (s : State) : State :=
  let s' := s.modPort p fun x => { x with totalBad := satAdd 255 x.totalBad 1, consecBad := x.consecBad + 1 }
  if 8 ≤ (s.port p).consecBad + 1 then eightBad p s' else s'

/-- A good message clears the consecutive bad count (R103). -/
def goodMessage (p : Fin 4) (s : State) : State := s.modPort p fun x => { x with consecBad := 0 }

/-- A VALUES message good by its check, in SWITCHING or STREAMING (R103). -/
def judgeValues (p : Fin 4) (body : List Byte) (s : State) : State :=
  match readingOf (s.port p).descriptor body with
  | some (mode, vs) => useValues p mode vs (goodMessage p s)
  | none => badMessage p s

/-- A message whose check and stop bits are good, by its kind and the port's state (R103). -/
def useMessage (p : Fin 4) (m : SensorMsg) (s : State) : State :=
  match m.header.toNat / 32, (s.port p).state with
  | 1, .describing => useDescribe p m.body (goodMessage p s)
  | 3, .switching => judgeValues p m.body s
  | 3, .streaming => judgeValues p m.body s
  | _, _ => goodMessage p s

/-- A message is bad by its check byte or a low stop bit (R103). -/
def messageFaulty (m : SensorMsg) : Bool := m.stopLow || sensorCheck (m.header :: m.body) != m.check

/-- A message judged at its check byte (R103). -/
def messageStep (p : Fin 4) (m : SensorMsg) (s : State) : State :=
  let x := s.port p
  if !x.receives then s
  else if x.state = .describing ∧ m.header = 0x55 then s
  else if messageFaulty m then badMessage p s
  else useMessage p m s

/-- SENSOR_MESSAGE_RECEIVED (R103). -/
def execSensorMessageReceived (p : Fin 4) (m : SensorMsg) (s : State) : Host.Outcome State Fault Refusal :=
  .next (messageStep p m s)

/-- SENSOR_GAP_TIMEOUT: the message being received is bad (R103). -/
def execSensorGapTimeout (p : Fin 4) (s : State) : Host.Outcome State Fault Refusal :=
  .next (if (s.port p).receives then badMessage p s else s)

/-- SENSOR_MESSAGE_SENT: a SELECT or NUDGE has been sent, and the next that fell due follows (R104). -/
def execSensorMessageSent (p : Fin 4) (s : State) : Host.Outcome State Fault Refusal :=
  .next (if (s.port p).tx.head? = some .acknowledge then s else s.modPort p fun x => { x with tx := x.tx.drop 1 })

/-! ## The timers of a port (R104, R105, R108, R111)

An expiry is of a timer that has run out (log entry 7). -/

/-- DESCRIPTION_TIMER_EXPIRY (R105). -/
def execDescriptionTimerExpiry (p : Fin 4) (s : State) : Host.Outcome State Fault Refusal :=
  .next (if ranOut (s.port p).descTimer then failIdentification p 1 s else s)

/-- SILENCE_TIMER_EXPIRY (R108). -/
def execSilenceTimerExpiry (p : Fin 4) (s : State) : Host.Outcome State Fault Refusal :=
  .next (if ranOut (s.port p).silenceTimer then loseSensor p 1 s else s)

/-- A failed mode switch: back to STREAMING in the old mode, or a failed identification (R111). -/
def failSwitch (p : Fin 4) (sw : Switch) (s : State) : State :=
  match sw.oldMode with
  | some m =>
    portEvent .modeFailed p (toWord sw.newMode)
      (s.modPort p fun x =>
        send (.select m) { x with state := .streaming, currentMode := some m, switch := none, switchTimer := none })
  | none => failIdentification p 4 s

/-- SWITCH_TIMER_EXPIRY (R111). -/
def execSwitchTimerExpiry (p : Fin 4) (s : State) : Host.Outcome State Fault Refusal :=
  .next (match ranOut (s.port p).switchTimer, (s.port p).switch with
    | true, some sw => failSwitch p sw s
    | _, _ => s)

/-- NUDGE_TIMER_EXPIRY: a NUDGE is sent and the timer restarts (R104). -/
def execNudgeTimerExpiry (p : Fin 4) (s : State) : Host.Outcome State Fault Refusal :=
  .next (if ranOut (s.port p).nudgeTimer then s.modPort p fun x => send .nudge { x with nudgeTimer := some 100 } else s)

/-! ## Requests (R109, R114) -/

/-- The mode a STREAMING port's descriptor gives for a number. -/
def Port.modeDesc (x : Port) (m : Nat) : Option ModeDesc :=
  match x.descriptor with
  | some d => d.modes[m]?
  | none => none

/-- The start of a requested mode switch (R109). -/
def startSwitch (m : Nat) (x : Port) : Port :=
  send (.select m) { x with
    state := .switching, switch := some { oldMode := some (x.currentMode.getD 0), newMode := m }, switchTimer := some 250 }

/-- SET_SENSOR_MODE (R109). -/
def doSetSensorMode (h : ReqCtx) (port mode : Byte) (s : State) : State :=
  match portOf port with
  | none => answer h .badArg [] s
  | some p =>
    match (s.port p).state with
    | .switching => answer h .busy [] s
    | .streaming =>
      match (s.port p).modeDesc mode.toNat with
      | some md =>
        answer h .accepted [toByte md.count, md.format.code, BitVec.ofInt 8 md.scale] (s.modPort p (startSwitch mode.toNat))
      | none => answer h .badArg [] s
    | _ => answer h .notReady [] s

def execSetSensorMode (h : ReqCtx) (port mode : Byte) (s : State) : Host.Outcome State Fault Refusal :=
  .next (doSetSensorMode h port mode s)

/-- The port after PORT_RESET (R114). -/
def resetPort (x : Port) : Port :=
  { voidReading (endSerial x) with
    state := .empty, settled := .empty, candidate := none, debounce := 0, descriptor := none, currentMode := none,
    snapshot := Port.reset.snapshot, totalBad := 0, consecBad := 0, ready := false, window := [] }

/-- PORT_RESET (R114). -/
def doPortReset (h : ReqCtx) (port : Byte) (s : State) : State :=
  match portOf port with
  | some p => answer h .ok [(s.port p).state.code] (s.modPort p resetPort)
  | none => answer h .badArg [] s

def execPortReset (h : ReqCtx) (port : Byte) (s : State) : Host.Outcome State Fault Refusal :=
  .next (doPortReset h port s)

end Sys2Proof.Machine
end

