-- ==== Sys2Proof/Machine/Supply.lean ====
section
/-! DEFINITION. The supply monitor: the battery filter, the supply states, supply low and temperature (R142 to R145). -/

namespace Sys2Proof.Machine

/-- The new supply state for a Vbat: the first matching line of the present state (R143). -/
def nextSupply (st : SupplyState) (v : Nat) : SupplyState :=
  match st with
  | .normal => if v < 4500 then .brownout else if v < 5800 then .sag else .normal
  | .sag => if v < 4500 then .brownout else if 6200 < v then .normal else .sag
  | .brownout => if 5000 ≤ v then if 6200 < v then .normal else .sag else .brownout

/-- Each channel lowers its Leff to the SAG cap, and d with it (R89, R144). -/
def sagAll (s : State) : State :=
  forEach all4 (fun c s => s.modChan c fun ch => lowerLimit (min 800 ch.params.limit) ch) s

/-- Replace the supply state. -/
def State.withSupply (s : State) (st : SupplyState) : State := { s with supply := { s.supply with state := st } }

/-- The neighbours are told that BROWNOUT ends: channels to COAST, the player stopped (R75, R139, R144). -/
def endBrownout (s : State) : State :=
  let s := coastAll s
  s.withSound (stopNow s.sound)

/-- The supply state changes from `old` to `new`: the neighbours are told, then the events are raised (R143, R144). -/
def changeSupply (old new : SupplyState) (v : Nat) (s : State) : State :=
  let s := s.withSupply new
  let arg := toWord v
  match old, new with
  | .normal, .sag => raiseEvent .supplySag 1 arg (sagAll s)
  | .normal, .brownout => raiseEvent .supplySag 2 arg (s.withSound (stopForBrownout s.sound))
  | .sag, .brownout => raiseEvent .supplySag 2 arg (s.withSound (stopForBrownout s.sound))
  | .sag, .normal => raiseEvent .supplyNormal 0 arg s
  | .brownout, .sag => raiseEvent .brownoutEnd 1 arg (sagAll (endBrownout s))
  | .brownout, .normal => raiseEvent .supplyNormal 0 arg (raiseEvent .brownoutEnd 0 arg (endBrownout s))
  | _, _ => s

/-- A condition with hysteresis: begins below `lo`, ends at `hi` or more (R145). -/
def lowNow (was : Bool) (v : Nat) : Bool := if was then decide (v < 5400) else decide (v < 5200)

/-- The overheat condition for a reading: begins above 125, ends below 110 (R145). -/
def hotNow (was : Bool) (deg : Int) : Bool := if was then decide (110 ≤ deg) else decide (125 < deg)

/-- What the monitor does at each new Vbat, in order (R142). -/
def vbatStep (s : State) : State :=
  let v := s.supply.vbat
  let s1 := changeSupply s.supply.state (nextSupply s.supply.state v) v s
  let s2 := tellCondition srcSupplyLow (lowNow (s1.source srcSupplyLow).condition v) s1
  watchUpdate .supply s2

/-- SUPPLY_SAMPLE (R142). -/
def execSupplySample (mv : Nat) (s : State) : Host.Outcome State Fault Refusal :=
  .next (if s.inReset then s else vbatStep { s with supply := { s.supply with window := shiftIn s.supply.window mv } })

/-- A temperature reading (R145). -/
def temperatureStep (deg : Int) (s : State) : State :=
  let s := { s with supply := { s.supply with temperature := deg } }
  tellCondition srcOverheat (hotNow (s.source srcOverheat).condition deg) s

/-- TEMPERATURE_READING (R145). -/
def execTemperatureReading (deg : Int) (s : State) : Host.Outcome State Fault Refusal :=
  .next (if s.inReset then s else temperatureStep deg s)

end Sys2Proof.Machine
end

