-- ==== Sys2Proof/Machine/Reset.lean ====
section
/-! DEFINITION. Cold reset, RESTART, the end of a reset, and the millisecond that the idle block counts (R23, R76, R96, R115,
R125, R141, R170, R171, R178). -/

namespace Sys2Proof.Machine

/-- Every block at its reset values, the pins' levels and the queue of waiting commands kept. -/
def resetBlocks (s : State) : State :=
  { State.reset with
    straps := s.straps
    link := Link.reset s.straps
    chans := mapEach (fun ch => Channel.reset ch.line1 ch.line2) s.chans
    pending := s.pending }

/-- COLD_RESET: every block takes its reset values and all work in progress ends (R23). -/
def execColdReset (s : State) : Host.Outcome State Fault Refusal := .next (resetBlocks s)

/-- RESTART is executed: every block at its values after RESTART, the straps read anew, the receive state and LINK_UP kept,
the answer waiting (R170). -/
def restartBlocks (h : ReqCtx) (s : State) : State :=
  let t := resetBlocks s
  { t with tablet := { t.tablet with linkUp := s.tablet.linkUp, rx := s.tablet.rx, restart := some h } }

/-- LINK_UP falls (R168). -/
def linkFall (s : State) : State := { s with tablet := { s.tablet with linkUp := false, reports := [], rx := .hunt } }

/-- LINK_UP read at the end of a reset (R171): low has the effect of its fall, high lets bytes be taken. -/
def readLinkUp (up : Bool) (s : State) : State :=
  if up then { s with tablet := { s.tablet with linkUp := true } } else linkFall s

/-- The link controller at the end of a reset: the straps read, LISTENING unless standalone (R14, R22, R23). -/
def linkStart (p : Straps) : Link :=
  { Link.reset p with state := if p.stn = 0 ∨ p.stn = 15 then .offline else .listening }

/-- The end of a reset (R14, R142, R145, R171, R178). -/
def resetEnd (p : Straps) (battery : Nat) (temperature : Int) (up : Bool) (s : State) : State :=
  let s := readLinkUp up { s with
    inReset := false
    straps := p
    link := linkStart p
    supply := { s.supply with window := Vector.replicate 16 battery } }
  temperatureStep temperature (vbatStep s)

/-- RESET_END: of a reset in progress. -/
def execResetEnd (p : Straps) (battery : Nat) (temperature : Int) (up : Bool) (s : State) :
    Host.Outcome State Fault Refusal :=
  .next (if s.inReset then resetEnd p battery temperature up s else s)

/-! ## The millisecond counted on an empty queue -/

/-- A ms of the listen table: ages count up (R29). -/
def tickEntry (e : ListenEntry) : ListenEntry := { e with age := countUp e.age }

/-- A ms of a port: the reading's age up to 65,535, its timers down (R112). -/
def tickPort (x : Port) : Port :=
  { x with
    reading := { x.reading with age := satAdd 65535 x.reading.age 1 }
    measuring := countDown x.measuring
    descTimer := countDown x.descTimer
    silenceTimer := countDown x.silenceTimer
    switchTimer := countDown x.switchTimer
    nudgeTimer := countDown x.nudgeTimer }

/-- One millisecond passes with no command: the station clock, the ages, the time spent in GRACE and the timers count. What
an expiry does is the expiry's own command. DESIGN CHOICE (log entry 4). -/
def tick (s : State) : State :=
  if s.inReset then s
  else { s with
    link := { s.link with roster := mapEach countDown s.link.roster, dupTimer := countDown s.link.dupTimer }
    publish := { s.publish with timer := countDown s.publish.timer }
    listen := mapEach (fun e => e.map tickEntry) s.listen
    cue := { s.cue with clock := s.cue.clock + 1 }
    ports := mapEach tickPort s.ports
    fault := { s.fault with
      sources := mapEach (fun f => { f with timer := countUp f.timer }) s.fault.sources
      keepTimer := countDown s.fault.keepTimer }
    tablet := { s.tablet with relays := s.tablet.relays.map fun r => { r with deadline := r.deadline - 1 } } }

end Sys2Proof.Machine
end

