-- ==== Sys2Proof/Machine/Tablet.lean ====
section
/-! DEFINITION. The tablet port: bytes and messages, taking and executing requests, relaying, delivered DIRECTED frames,
READ_STATUS, RESTART, and the queue's sending (R155 to R171, R174 to R176). -/

namespace Sys2Proof.Machine

/-! ## READ_STATUS (R169, R175) -/

/-- A field of two bytes. -/
def intHalf (x : Int) : List Byte := halfBytes (BitVec.ofInt 16 x)

/-- Section 0: supply and faults. -/
def statusFaults (s : State) : List Byte :=
  nat16 s.supply.vbat ++ [s.supply.state.code] ++ intHalf s.supply.temperature ++ [haltedByte s.fault.halted]
    ++ (all8.map fun k => (s.source k).state.code) ++ [if s.fault.manual.isSome then 2 else 0]
    ++ match s.fault.remote with
      | some r => [r.station.setWidth 8, r.cause]
      | none => [0, 0]

/-- The roster as a mask: station n in bit n, with bits 0, 15 and the own number's bit 0. -/
def rosterMask (l : Link) : Nat :=
  (all16.map fun n =>
    if n.val = 0 ∨ n.val = 15 ∨ n.val = l.own.toNat then 0 else if (l.roster.get n).isSome then 2 ^ n.val else 0).sum

/-- Section 1: the link. -/
def statusLink (s : State) : List Byte :=
  [s.ownByte, s.link.rate.setWidth 8, s.link.state.code] ++ nat16 s.link.delivered ++ nat16 s.link.spoiled
    ++ nat16 s.link.runt ++ nat16 s.link.broken ++ nat16 (rosterMask s.link) ++ [toByte s.link.queue.length]

/-- The bytes of one channel in section 2. -/
def statusChannel (ch : Channel) : List Byte :=
  [ch.kind.code, ch.mode.code, boolByte ch.haltFlag] ++ wordBytes ch.position ++ [toByte ch.glitch]

/-- The trip-holder presence list: channel A in bit 0. -/
def holderList (s : State) : Nat := (all4.map fun c => if (s.chan c).tripHolders ≠ 0 then 2 ^ c.val else 0).sum

/-- Section 2: the motors. -/
def statusMotors (s : State) : List Byte := (all4.flatMap fun c => statusChannel (s.chan c)) ++ [toByte (holderList s)]

/-- The type byte of a port: passive type code in ANALOG, smart type code while a descriptor is held, otherwise 0. -/
def portType (x : Port) : Byte :=
  match x.state, x.descriptor with
  | .analog, _ => x.settled.typeCode
  | _, some d => d.typeCode
  | _, none => 0

/-- The current mode byte: 0xFF where the port has no current mode (R175). -/
def portMode (x : Port) : Byte :=
  match x.currentMode with
  | some m => toByte m
  | none => 0xFF

/-- The fixed-rate byte: reported while the port is DESCRIBING, SWITCHING or STREAMING (R102). -/
def portRate (x : Port) : Byte :=
  match x.receives, x.fixedRate with
  | true, some r => r.code
  | _, _ => 0

/-- The bytes of one port in section 3. -/
def statusPort (x : Port) : List Byte :=
  [x.state.code, portType x, portMode x, portRate x] ++ nat16 x.reading.age ++ [toByte x.totalBad]

/-- Section 3: the sensors. -/
def statusSensors (s : State) : List Byte := all4.flatMap fun p => statusPort (s.port p)

/-- Section 4: sound and watches. -/
def statusSound (s : State) : List Byte :=
  [s.sound.player.code, toByte s.sound.queue.length, toByte s.sound.master] ++ all8.map fun k => watchCode (s.watch k)

/-- The route byte: 0 for NONE, 0xFF for SELF. -/
def Route.code : Route → Byte
  | .none => 0
  | .self => 0xFF
  | .station t => t.setWidth 8

/-- Section 5: the tablet port. -/
def statusTablet (s : State) : List Byte :=
  [boolByte s.tablet.linkUp, s.tablet.route.code, toByte s.tablet.relays.length, toByte (freeSegments s.tablet.reports),
    toByte s.tablet.lost, toByte s.tablet.badCount] ++ wordBytes s.tablet.mask

/-- The summary of a section, or none above 5 (R169). -/
def statusData (sect : Byte) (s : State) : Option (List Byte) :=
  match sect.toNat with
  | 0 => some (statusFaults s)
  | 1 => some (statusLink s)
  | 2 => some (statusMotors s)
  | 3 => some (statusSensors s)
  | 4 => some (statusSound s)
  | 5 => some (statusTablet s)
  | _ => none

/-- READ_STATUS (R169). -/
def doReadStatus (h : ReqCtx) (sect : Byte) (s : State) : State :=
  match statusData sect s with
  | some d => answer h .ok d s
  | none => answer h .badArg [] s

def execReadStatus (h : ReqCtx) (sect : Byte) (s : State) : Host.Outcome State Fault Refusal :=
  .next (doReadStatus h sect s)

/-! ## SET_EVENT_MASK and RESTART (R165, R170) -/

/-- SET_EVENT_MASK: bits for codes that name no kind are stored clear (R165). -/
def doSetEventMask (h : ReqCtx) (mask : Word) (s : State) : State :=
  answer h .ok (wordBytes s.tablet.mask) { s with tablet := { s.tablet with mask := mask &&& eventMaskAll } }

def execSetEventMask (h : ReqCtx) (mask : Word) (s : State) : Host.Outcome State Fault Refusal :=
  .next (doSetEventMask h mask s)

/-- RESTART (R170). -/
def execRestart (h : ReqCtx) (s : State) : Host.Outcome State Fault Refusal := .next (restartBlocks h s)

/-- The answer of a RESTART that is done: a standalone station discards one for another station (R170). -/
def answerRestart (h : ReqCtx) (s : State) : State :=
  match h.dest with
  | .self => answer h .ok [s.ownByte] s
  | .station _ => if s.standalone then s else answer h .ok [s.ownByte] s

/-- RESTART_DONE: once the reset has ended, the waiting RESTART is answered (R170). -/
def execRestartDone (s : State) : Host.Outcome State Fault Refusal :=
  .next (match s.inReset, s.tablet.restart with
    | false, some h => answerRestart h { s with tablet := { s.tablet with restart := none } }
    | _, _ => s)

/-! ## Executing a request (R159) -/

/-- A request executed at this station by the block that owns it (R159). -/
def runRequest (h : ReqCtx) (r : Request) (s : State) : State :=
  match r with
  | .setMotor ch mode value cue keep => doSetMotor h ch mode value cue keep s
  | .setFollow ch f cue keep => doSetFollow h ch f cue keep s
  | .configMotor ch kind p => doConfigMotor h ch kind p s
  | .resetPosition ch value => doResetPosition h ch value s
  | .setPublish period items => doSetPublish h period items s
  | .setListen index source item limit => doSetListen h index source item limit s
  | .dropListen index => doDropListen h index s
  | .joinGroups mask => doJoinGroups h mask s
  | .sendCue mask cue => doSendCue h mask cue s
  | .dropCues cue => doDropCues h cue s
  | .listCues filter => doListCues h filter s
  | .stageSnapshot cue keep => doStageSnapshot h cue keep s
  | .stageRearm cue keep => doStageRearm h cue keep s
  | .setSensorMode port mode => doSetSensorMode h port mode s
  | .portReset port => doPortReset h port s
  | .setWatch index w => doSetWatch h index w s
  | .clearWatch index => doClearWatch h index s
  | .rearm index => doRearm h index s
  | .queueNotes start notes => doQueueNotes h start notes s
  | .startSound cue keep => doStartSound h cue keep s
  | .stopSound arg cue keep => doStopSound h arg cue keep s
  | .clearSound => doClearSound h s
  | .setVolume master mark => doSetVolume h master mark s
  | .configFault source reaction grace style form mask => doConfigFault h source reaction grace style form mask s
  | .halt reaction style form mask => doHalt h reaction style form mask s
  | .clearFault => doClearFault h s
  | .setKeepalive period => doSetKeepalive h period s
  | .setEventMask mask => doSetEventMask h mask s
  | .readStatus sect => doReadStatus h sect s
  | .restart => restartBlocks h s

/-! ## Relaying (R161, R163) -/

/-- The report route becomes r (R165). -/
def setRoute (r : Route) (s : State) : State := { s with tablet := { s.tablet with route := r } }

/-- A request for another station is relayed (R161); `body` is the whole request body. -/
def relay (h : ReqCtx) (dest : BitVec 4) (body : List Byte) (s : State) : State :=
  if 40 < body.length then answer h .badRequest [] s
  else if s.standalone then answer h .noRoute [] s
  else if (s.link.present dest).isNone then answer h .noRoute [] s
  else if 8 ≤ s.tablet.relays.length then answer h .busy [] s
  else
    let e : Relay := { id := s.tablet.nextRelay, tag := h.tag, dest := dest, deadline := 100, status := .queued }
    let o := offer (.command e.id) body s
    if o.2 then
      { o.1 with tablet := { o.1.tablet with relays := o.1.tablet.relays ++ [e], nextRelay := e.id + 1 } }
    else answer h .linkBusy [] o.1

/-- The answer of a relayed request, issued to SELF with its tag and its destination as station (R162 to R164). -/
def answerRelay (e : Relay) (r : Result) (data : List Byte) (s : State) : State :=
  placeAnswer (answerBody e.tag (e.dest.setWidth 8) r data) s

/-- The table without the entry of an identity. -/
def removeRelay (id : Nat) (s : State) : State :=
  { s with tablet := { s.tablet with relays := s.tablet.relays.filter fun e => e.id != id } }

/-- The entry of an identity, if it is still held. -/
def relayOf (id : Nat) (s : State) : Option Relay := s.tablet.relays.find? fun e => e.id == id

/-- FRAME_WITHDRAWN: a waiting COMMAND frame leaves the queue; one in contention stays (R19). -/
def withdraw (id : Nat) (s : State) : State :=
  { s with link := { s.link with queue := s.link.queue.filter fun f => f.contending || f.owner != .command id } }

/-- DEADLINE_TIMER_EXPIRY: of the entry at a place in the table, in the order of their making, once its deadline has run out
(R163, log entry 7). -/
def execDeadlineTimerExpiry (i : Nat) (s : State) : Host.Outcome State Fault Refusal :=
  .next (match s.tablet.relays[i]? with
    | some e => if e.deadline = 0 then answerRelay e .noAnswer [] (removeRelay e.id (withdraw e.id s)) else s
    | none => s)

/-! ## Requests from the serial line (R156, R158) -/

/-- The destination byte names this station (10.2). -/
def namesSelf (dest : Byte) (s : State) : Bool := dest == 0 || dest == s.ownByte

/-- The context of a request from the serial line: 0 is taken as the own number (R159). -/
def lineCtx (tag dest : Byte) (s : State) : ReqCtx :=
  { tag := tag, station := if dest = 0 then s.ownByte else dest, dest := .self }

/-- The taking of a good message's body after the route is set, step by step (R158). -/
def takeBody (body : List Byte) (s : State) : State :=
  match body with
  | [] => s
  | [t] => answer (lineCtx t 0 s) .badRequest [] s
  | [t, _] => answer (lineCtx t 0 s) .badRequest [] s
  | t :: d :: k :: args =>
    let h := lineCtx t d s
    match decodeRequest k args with
    | none => answer h .badRequest [] (if namesSelf d s then restartKeepalive s else s)
    | some r =>
      if namesSelf d s then runRequest h r (restartKeepalive s)
      else if d.toNat ≤ 14 then relay h (d.setWidth 4) body s
      else answer h .noRoute [] s

/-- A good message is taken from the serial line (R158). -/
def takeRequest (body : List Byte) (s : State) : State := takeBody body (setRoute .self s)

/-- What one received byte makes of the receive state (R156). -/
inductive RxOutcome where
  | none
  | bad
  | good (body : List Byte)
  deriving DecidableEq, Repr

/-- One byte received (R156): a low stop bit after the sync byte makes the message bad at that byte. -/
def rxByte (b : LineByte) (st : TabletRx) : TabletRx × RxOutcome :=
  match st with
  | .hunt => (if b.value = 0xA5 ∧ b.stopLow = false then .length else .hunt, .none)
  | .length =>
    if b.stopLow = true ∨ b.value.toNat = 0 ∨ 60 < b.value.toNat then (.hunt, .bad) else (.body b.value [], .none)
  | .body len got =>
    if b.stopLow then (.hunt, .bad)
    else if len.toNat ≤ got.length + 1 then (.check len (got ++ [b.value]), .none)
    else (.body len (got ++ [b.value]), .none)
  | .check len got =>
    if b.stopLow = false ∧ b.value = crc8 (len :: got) then (.hunt, .good got) else (.hunt, .bad)

/-- The receive state becomes st. -/
def setRx (st : TabletRx) (s : State) : State := { s with tablet := { s.tablet with rx := st } }

/-- A bad message: discarded, counted up to 255, HUNT (R156). -/
def badTabletMessage (s : State) : State :=
  { s with tablet := { s.tablet with rx := .hunt, badCount := satAdd 255 s.tablet.badCount 1 } }

/-- One byte taken from the receive line (R156). -/
def feedByte (b : LineByte) (s : State) : State :=
  let r := rxByte b s.tablet.rx
  match r.2 with
  | .none => setRx r.1 s
  | .bad => badTabletMessage (setRx r.1 s)
  | .good body => takeRequest body (setRx r.1 s)

/-- TABLET_MESSAGE: the bytes of a message, or of a part of one, taken while LINK_UP is high (R155, R156, R158). -/
def execTabletMessage (bytes : List LineByte) (s : State) : Host.Outcome State Fault Refusal :=
  .next (if s.tablet.linkUp then forEach bytes feedByte s else s)

/-- The port is inside a message: a sync byte has been taken and the check byte has not come (R156). -/
def State.inMessage (s : State) : Bool := s.tablet.linkUp && s.tablet.rx != .hunt

/-- TABLET_BAD_MESSAGE: of the message being received; in HUNT there is none (R156, log entry 8). -/
def execTabletBadMessage (s : State) : Host.Outcome State Fault Refusal :=
  .next (if s.inMessage then badTabletMessage s else s)

/-- TABLET_GAP_TIMEOUT: within a message; in HUNT no gap is counted (R156, log entry 8). -/
def execTabletGapTimeout (s : State) : Host.Outcome State Fault Refusal :=
  .next (if s.inMessage then badTabletMessage s else s)

/-- The bytes of a tablet message or record on the line: sync, length, body, check (R156, R157). -/
def messageBytes (body : List Byte) : List Byte :=
  [0xA5, toByte body.length] ++ body ++ [crc8 (toByte body.length :: body)]

/-- A message as it is received with every stop bit high. -/
def lineBytes (body : List Byte) : List LineByte := (messageBytes body).map sentByte

/-! ## The queue's sending and LINK_UP (R157, R168) -/

/-- The transmit line of the tablet port: while LINK_UP is high the oldest record of the report queue at 115,200 bit/s, and
otherwise idle (R155, R157, R168, R171). -/
def Tablet.line (t : Tablet) : SerialLine :=
  match t.linkUp, t.reports with
  | true, body :: _ => .sending 115200 (lineBytes body)
  | _, _ => .idle

/-- RECORD_SENT: the stop bit of the head record's check byte has been sent, the record leaves the queue, and the next one, if
any, is on the line (R157). -/
def execRecordSent (s : State) : Host.Outcome State Fault Refusal :=
  .next (if s.tablet.linkUp then { s with tablet := { s.tablet with reports := s.tablet.reports.drop 1 } } else s)

/-- LINK_UP_FALL (R168). -/
def execLinkUpFall (s : State) : Host.Outcome State Fault Refusal := .next (linkFall s)

/-- The reset in progress is a cold reset: no RESTART waits for its answer (R170). -/
def State.inColdReset (s : State) : Bool := s.inReset && s.tablet.restart.isNone

/-- LINK_UP_RISE (R168): bytes are taken from HUNT. A rise during a RESTART does the same, since the port assembles messages
throughout it (R170). In a cold reset the level waits for the reset's end, which reads it (R171, log entry 11), and a line
that is high already cannot rise (log entry 8). -/
def execLinkUpRise (s : State) : Host.Outcome State Fault Refusal :=
  .next (if s.inColdReset || s.tablet.linkUp then s
    else { s with tablet := { s.tablet with linkUp := true, rx := .hunt } })

/-! ## DIRECTED frames delivered to this station (R160, R164, R166) -/

/-- COMMAND_TAKEN (R160). -/
def takeCommand (sender : BitVec 4) (payload : List Byte) (s : State) : State :=
  match payload with
  | t :: d :: k :: args =>
    let s := restartKeepalive (setRoute (.station sender) s)
    let h : ReqCtx := { tag := t, station := d, dest := .station sender }
    match decodeRequest k args with
    | some r => runRequest h r s
    | none => answer h .badRequest [] s
  | _ => s

/-- The oldest SENT relay entry with a tag and a destination (R164). -/
def matchRelay (tag : Byte) (sender : BitVec 4) (s : State) : Option Relay :=
  s.tablet.relays.find? fun e => e.status == .sent && e.tag == tag && e.dest == sender

/-- ANSWER_TAKEN (R164): the result byte and data of the frame go on as they came. -/
def takeAnswer (sender : BitVec 4) (payload : List Byte) (s : State) : State :=
  match payload with
  | _ :: tag :: result :: data =>
    match matchRelay tag sender s with
    | some e => placeAnswer ([1, tag, sender.setWidth 8, result] ++ data.take 56) (removeRelay e.id s)
    | none => s
  | _ => s

/-- NOTICE_TAKEN (R166). -/
def takeNotice (sender : BitVec 4) (payload : List Byte) (s : State) : State :=
  match payload with
  | [_, _, kind, subject, a, b, c, d, lost] =>
    if s.tablet.linkUp then
      let n := satAdd 255 lost.toNat s.tablet.lost
      placeRecord 8 n (eventBody kind (sender.setWidth 8) subject (word a b c d) n)
        { s with tablet := { s.tablet with lost := 0 } }
    else s
  | _ => s

end Sys2Proof.Machine
end

