-- ==== Sys2Proof/Machine/Link.lean ====
section
/-! DEFINITION. The brick link: quiet gaps, contention, clashes, broken frames, the verdict slot, delivery and spoiling, the
roster and its timers, the stuck line (R1 to R23). -/

namespace Sys2Proof.Machine

/-! ## The claim character and the receiver (R6) -/

/-- The class of a claim: data bits 7 and 6. -/
def claimClass (c : Byte) : Nat := (c.extractLsb' 6 2).toNat

/-- The station number of a claim: data bits 5 to 2. -/
def claimStation (c : Byte) : BitVec 4 := c.extractLsb' 2 4

/-- The subkind of a claim: data bits 1 and 0. -/
def claimSub (c : Byte) : Nat := (c.extractLsb' 0 2).toNat

/-- A claim that bears station number 0 or 15, or a subkind its class does not have (R11). -/
def badClaim (c : Byte) : Bool :=
  claimStation c == 0 || claimStation c == 15
    || (if claimClass c = 2 then claimSub c == 3 else claimSub c != 0)

/-- A receiver's judgement of a frame it received through its check character (R11). -/
def faulty (rx : RxFrame) (broken : Bool) : Bool :=
  crc8 (rx.length :: rx.payload) != rx.check || rx.stopLow || badClaim rx.claim || broken

/-- The link with what it holds of a received frame dropped. -/
def Link.dropRx (l : Link) : Link := { l with rxBroken := false, driving := false, rxHeld := none }

/-- A 16-bit link counter raised by one; it stays at 65,535 (R21). -/
def bump (n : Nat) : Nat := satAdd 65535 n 1

/-- A change of the link controller alone. -/
def State.modLink (s : State) (f : Link → Link) : State := { s with link := f s.link }

/-! ## Frames in contention (R8, R16, R17) -/

/-- The frame of the send queue that is in contention, if there is one. -/
def Link.contender (l : Link) : Option Frame := l.queue.find? fun f => f.contending

/-- The queue with every frame waiting. -/
def allWaiting (q : List Frame) : List Frame := q.map fun f => { f with contending := false }

/-- The frame in contention goes back to waiting, its place, age and spoil count kept (R8). -/
def Link.backToWaiting (l : Link) : Link := { l with queue := allWaiting l.queue }

/-- The queue without the frame in contention. -/
def Link.removeContender (l : Link) : Link := { l with queue := l.queue.eraseP fun f => f.contending }

/-- The held PUBLISH frame acts once no PUBLISH frame is in contention: it is offered, and so replaces a waiting PUBLISH frame
or enters as a new one (R17). -/
def settleHeld (s : State) : State :=
  match s.link.held with
  | some f => (offer .publish f.payload (s.modLink fun l => { l with held := none })).1
  | none => s

/-! ## Characters of a frame (R2, R6)

What a sender puts on the line and what a receiver makes of the characters it finds there. -/

/-- A character: its data value, its mark bit, and whether its stop bit was found dominant, which no sender makes it (R2). -/
structure LineChar where
  value : Byte
  mark : Bool
  stopLow : Bool
  deriving DecidableEq, Repr

/-- The eleven levels of a character in order on the line, true for recessive (R2): start bit, data bits with the most
significant first, mark bit, stop bit. -/
def LineChar.levels (c : LineChar) : List Bool :=
  [false] ++ ([7, 6, 5, 4, 3, 2, 1, 0].map fun i => c.value.getLsbD i) ++ [c.mark, !c.stopLow]

/-- A character as a sender sends it, with the mark bit given. -/
def sentChar (mark : Bool) (v : Byte) : LineChar := { value := v, mark := mark, stopLow := false }

/-- The length character of a frame (R6). -/
def Frame.lengthByte (f : Frame) : Byte := toByte f.payload.length

/-- The check character: the CRC over the length and payload characters, in that order (R6). -/
def Frame.checkByte (f : Frame) : Byte := crc8 (f.lengthByte :: f.payload)

/-- The characters of a frame as its sender sends them, back to back: the claim with mark bit 1, then with mark bit 0 the
length, the payload and the check character; the verdict slot follows, in which the sender drives nothing (R2, R6, R11). -/
def Frame.chars (f : Frame) : List LineChar :=
  sentChar true f.claim :: ([f.lengthByte] ++ f.payload ++ [f.checkByte]).map (sentChar false)

/-- The characters this station has to send in the frame it contends with; none unless it is SENDING (R7, R14). -/
def Link.sends (l : Link) : List LineChar :=
  match l.state, l.contender with
  | .sending, some f => f.chars
  | _, _ => []

/-- The character that breaks a frame, from the mark bits of the characters received, the claim first (R2, R5). -/
def brokenAt : List LineChar → Option BrokenAt
  | [] => none
  | c :: cs =>
    if c.mark = false then some .claim
    else match cs with
      | [] => none
      | l :: rest => if l.mark then some .length else if rest.any fun x => x.mark then some (.later l.value) else none

/-- The frame a receiver finds in the characters from a claim through the check character: as many payload characters as the
length gives, and whether any stop bit was dominant (R2, R6); none for too few or too many, or a length above 40. -/
def readFrame : List LineChar → Option RxFrame
  | c :: l :: rest =>
    match (rest.map fun x => x.value).reverse with
    | check :: back =>
      if back.length = l.value.toNat ∧ l.value.toNat ≤ 40 then
        some { claim := c.value, length := l.value, payload := back.reverse, check := check,
               stopLow := (c :: l :: rest).any fun x => x.stopLow }
      else none
    | [] => none
  | _ => none

/-! ## Spoils (R9, R13) -/

/-- The owner of a frame spoiled for the eighth time is told (R13). -/
def tellSpoiledOut (o : FrameOwner) (s : State) : State :=
  match o with
  | .halt => s
  | .cueRequest h => answer h .linkSpoiled [] s
  | .cueWatch _ => s
  | .command id => match relayOf id s with
    | some e => answerRelay e .linkSpoiled [] (removeRelay id s)
    | none => s
  | .answer => addLost 1 s
  | .notice carried => addLost (carried + 1) s
  | .publish => s

/-- The queue with the spoil count of the frame in contention raised by one, the frame waiting again. -/
def countSpoil (q : List Frame) : List Frame :=
  q.map fun f => if f.contending then { f with contending := false, spoils := f.spoils + 1 } else f

/-- The frame in contention is spoiled: at a count of 8 it is removed with LINK_SPOILED (R13). -/
def spoilContender (s : State) : State :=
  match s.link.contender with
  | some f =>
    if 8 ≤ f.spoils + 1 then
      settleHeld (tellSpoiledOut f.owner
        (raiseEvent .linkSpoiled (toByte (claimClass f.claim)) (f.claim.setWidth 32) (s.modLink Link.removeContender)))
    else settleHeld (s.modLink fun l => { l with queue := countSpoil l.queue })
  | none => settleHeld s

/-- DUPLICATE_STATION, unless its suppression timer runs; raising it starts the timer (R10). -/
def duplicateStation (arg : Word) (s : State) : State :=
  match s.link.dupTimer with
  | some _ => s
  | none => raiseEvent .duplicateStation s.ownByte arg (s.modLink fun l => { l with dupTimer := some 1000 })

/-! ## Quiet gaps, start bits, contention (R3, R4, R7, R8, R14) -/

/-- The link at the end of a quiet gap, but for the start of contention (R3, R4, R14). -/
def quietGapEnd (l : Link) : Link :=
  match l.state with
  | .offline => l
  | .listening => { l.dropRx with state := .idle, gapOpen := true }
  | .idle => { l with gapOpen := true }
  | .receiving => { l.dropRx with state := .idle, gapOpen := true, runt := bump l.runt }
  | .sending => l
  | .verdict => l
  | .stuck => { l.dropRx with state := .idle, gapOpen := true }

/-- QUIET_GAP_END (R3, R4, R7, R14). -/
def execQuietGapEnd (s : State) : Host.Outcome State Fault Refusal := .next (s.modLink fun l => claimStart (quietGapEnd l))

/-- START_BIT_SEEN: in IDLE the start bit of another station comes first (R7, R14). -/
def execStartBitSeen (s : State) : Host.Outcome State Fault Refusal :=
  .next (match s.link.state with
    | .idle => s.modLink fun l => { l.dropRx with state := .receiving, gapOpen := false }
    | _ => s)

/-- CONTENTION_LOSS (R8, R17). -/
def execContentionLoss (s : State) : Host.Outcome State Fault Refusal :=
  .next (match s.link.state with
    | .sending => settleHeld (s.modLink fun l => { l.backToWaiting.dropRx with state := .receiving })
    | _ => s)

/-- BIT_CLASH (R9, R10, R13). -/
def execBitClash (s : State) : Host.Outcome State Fault Refusal :=
  .next (match s.link.state with
    | .sending =>
      duplicateStation 1
        (spoilContender (s.modLink fun l => { l.dropRx with state := .receiving, spoiled := bump l.spoiled }))
    | _ => s)

/-! ## Broken frames (R5) -/

/-- The frame is broken where the verdict slot cannot be placed: BROKEN rises, LISTENING. -/
def breakToListening (l : Link) : Link := { l.dropRx with state := .listening, gapOpen := false, broken := bump l.broken }

/-- A later character with mark bit 1: counted once for the frame; with a length of 40 or less the station counts on. -/
def breakLater (len : Byte) (l : Link) : Link :=
  if len.toNat ≤ 40 then
    if l.rxBroken then l else { l with rxBroken := true, broken := bump l.broken }
  else if l.rxBroken then { l.dropRx with state := .listening, gapOpen := false } else breakToListening l

/-- The link once a character breaks a frame (R5, R14). -/
def breakFrame (a : BrokenAt) (l : Link) : Link :=
  match l.state, a with
  | .idle, .claim => breakToListening l
  | .receiving, .claim => breakToListening l
  | .receiving, .length => breakToListening l
  | .receiving, .later len => breakLater len l
  | _, _ => l

/-- FRAME_BROKEN (R5). -/
def execFrameBroken (a : BrokenAt) (s : State) : Host.Outcome State Fault Refusal := .next (s.modLink (breakFrame a))

/-- LENGTH_ABOVE_40_READ: the length character read has mark bit 0 and a value above 40; nothing is counted (R5, R14). -/
def execLengthAbove40Read (len : Byte) (s : State) : Host.Outcome State Fault Refusal :=
  .next (match s.link.state with
    | .receiving =>
      if 40 < len.toNat then s.modLink fun l => { l.dropRx with state := .listening, gapOpen := false } else s
    | _ => s)

/-! ## The verdict slot (R11, R14) -/

/-- The link as the stop bit of the check character ends: a receiver judges the frame, a sender does not (R11). -/
def verdictStart (rx : RxFrame) (l : Link) : Link :=
  match l.state with
  | .sending => { l.dropRx with state := .verdict }
  | .receiving =>
    if faulty rx l.rxBroken then { l.dropRx with state := .verdict, driving := true }
    else { l.dropRx with state := .verdict, rxHeld := some { claim := rx.claim, payload := rx.payload } }
  | _ => l

/-- VERDICT (R11). -/
def execVerdict (rx : RxFrame) (s : State) : Host.Outcome State Fault Refusal := .next (s.modLink (verdictStart rx))

/-! ## Delivery (R10, R12, R20) -/

/-- The roster's part of a delivered frame from station st (R20). -/
def stationHeard (st : BitVec 4) (s : State) : State :=
  let s' := s.modLink fun l => l.setRoster st (some 1000)
  match s.link.present st with
  | some _ => s'
  | none => raiseEvent .stationFound (st.setWidth 8) 0 s'

/-- The tablet port keeps a DIRECTED frame only if the addressee its payload carries is the own number (R12, R173). -/
def takeDirected (sub : Nat) (sender : BitVec 4) (payload : List Byte) (s : State) : State :=
  match sub, payload with
  | 0, _ :: d :: _ => if d = s.ownByte then takeCommand sender payload s else s
  | 1, a :: _ => if a = s.ownByte then takeAnswer sender payload s else s
  | 2, a :: _ => if a = s.ownByte then takeNotice sender payload s else s
  | _, _ => s

/-- A delivered frame handed, as not the station's own, to the block that owns its class (R12). -/
def handOver (f : HeldFrame) (s : State) : State :=
  match claimClass f.claim with
  | 0 => takeHaltFrame (claimStation f.claim) f.payload s
  | 1 => takeCueFrame f.payload s
  | 2 => takeDirected (claimSub f.claim) (claimStation f.claim) f.payload s
  | _ => takePublish (claimStation f.claim) f.payload s

/-- A frame delivered at a receiver (R10, R12). For a frame that bears the own number no rule says whether DUPLICATE_STATION
comes before or after the frame is handed over: the model raises it first (DEDUCED, log entry 16). -/
def deliverReceived (f : HeldFrame) (s : State) : State :=
  let s := s.modLink fun l => { l with delivered := bump l.delivered }
  handOver f
    (if claimStation f.claim = s.link.own then duplicateStation 2 s else stationHeard (claimStation f.claim) s)

/-- The relay entry of a delivered COMMAND frame becomes SENT (R162). -/
def markSent (id : Nat) (s : State) : State :=
  { s with tablet := { s.tablet with
      relays := s.tablet.relays.map fun e => if e.id = id then { e with status := .sent } else e } }

/-- What the owner of a delivered frame does, a CUE frame taken by its sender's cue unit first (R12, R49, R162). -/
def tellDelivered (f : Frame) (s : State) : State :=
  match f.owner with
  | .halt => s
  | .cueRequest h => answer h .ok [] (takeCueFrame f.payload s)
  | .cueWatch _ => takeCueFrame f.payload s
  | .command id => markSent id s
  | .answer => s
  | .notice _ => s
  | .publish => s

/-- A frame delivered at its sender (R12, R17). -/
def deliverSent (f : Frame) (s : State) : State :=
  settleHeld (tellDelivered f (s.modLink fun l => { l.removeContender with delivered := bump l.delivered }))

/-- The link at the end of a verdict slot: IDLE, the gap that follows not yet met (R3, R14). -/
def slotEnd (l : Link) : Link := { l.dropRx with state := .idle, gapOpen := false }

/-- FRAME_DELIVERED (R12). -/
def execFrameDelivered (s : State) : Host.Outcome State Fault Refusal :=
  .next (match s.link.state with
    | .verdict =>
      match s.link.contender, s.link.rxHeld with
      | some f, _ => deliverSent f (s.modLink slotEnd)
      | none, some f => deliverReceived f (s.modLink slotEnd)
      | none, none => s.modLink slotEnd
    | _ => s)

/-- FRAME_SPOILED (R13). -/
def execFrameSpoiled (s : State) : Host.Outcome State Fault Refusal :=
  .next (match s.link.state with
    | .verdict => spoilContender (s.modLink fun l => { slotEnd l with spoiled := bump l.spoiled })
    | _ => s)

/-! ## The stuck line and the timers (R10, R15, R20) -/

/-- LINE_STUCK (R15). -/
def execLineStuck (s : State) : Host.Outcome State Fault Refusal :=
  .next (match s.link.state with
    | .offline => s
    | _ =>
      raiseEvent .lineStuck 0 0
        (settleHeld (s.modLink fun l => { l.backToWaiting.dropRx with state := .stuck, gapOpen := false })))

/-- STATION_SILENCE_EXPIRY: of a PRESENT station whose silence timer has run out; one that a frame has just restarted does
not expire (R20, log entry 7). -/
def execStationSilenceExpiry (st : BitVec 4) (s : State) : Host.Outcome State Fault Refusal :=
  .next (if ranOut (s.link.present st) then
      raiseEvent .stationLost (st.setWidth 8) 1000 (s.modLink fun l => l.setRoster st none)
    else s)

/-- DUPLICATE_SUPPRESSION_EXPIRY (R10, log entry 7). -/
def execDuplicateSuppressionExpiry (s : State) : Host.Outcome State Fault Refusal :=
  .next (if ranOut s.link.dupTimer then s.modLink fun l => { l with dupTimer := none } else s)

end Sys2Proof.Machine
end

