-- ==== Sys2Proof/Machine/Dispatch.lean ====
section
/-! DEFINITION. The dispatch: one arm for each command. -/

namespace Sys2Proof.Machine

/-- The effect of a command on everything but the queue of waiting commands. -/
def exec (i : Instr) (s : State) : Host.Outcome State Fault Refusal :=
  match i with
  | .coldReset => Sys2Proof.Machine.execColdReset s
  | .resetEnd straps battery temperature linkUp => Sys2Proof.Machine.execResetEnd straps battery temperature linkUp s
  | .quietGapEnd => Sys2Proof.Machine.execQuietGapEnd s
  | .contentionLoss => Sys2Proof.Machine.execContentionLoss s
  | .bitClash => Sys2Proof.Machine.execBitClash s
  | .frameBroken at' => Sys2Proof.Machine.execFrameBroken at' s
  | .verdict rx => Sys2Proof.Machine.execVerdict rx s
  | .frameDelivered => Sys2Proof.Machine.execFrameDelivered s
  | .frameSpoiled => Sys2Proof.Machine.execFrameSpoiled s
  | .lineStuck => Sys2Proof.Machine.execLineStuck s
  | .stationSilenceExpiry station => Sys2Proof.Machine.execStationSilenceExpiry station s
  | .duplicateSuppressionExpiry => Sys2Proof.Machine.execDuplicateSuppressionExpiry s
  | .publishTimerExpiry => Sys2Proof.Machine.execPublishTimerExpiry s
  | .ageTimerExpiry entry => Sys2Proof.Machine.execAgeTimerExpiry entry s
  | .controlPeriodExpiry ch current => Sys2Proof.Machine.execControlPeriodExpiry ch current s
  | .encoderTransition ch line1 line2 => Sys2Proof.Machine.execEncoderTransition ch line1 line2 s
  | .pwmWrap ch => Sys2Proof.Machine.execPwmWrap ch s
  | .detectSample port mv => Sys2Proof.Machine.execDetectSample port mv s
  | .analogSample port mv => Sys2Proof.Machine.execAnalogSample port mv s
  | .rateMeasurement port ns => Sys2Proof.Machine.execRateMeasurement port ns s
  | .rateMeasurementTimeout port => Sys2Proof.Machine.execRateMeasurementTimeout port s
  | .acknowledgeSent port => Sys2Proof.Machine.execAcknowledgeSent port s
  | .sensorMessageReceived port m => Sys2Proof.Machine.execSensorMessageReceived port m s
  | .sensorGapTimeout port => Sys2Proof.Machine.execSensorGapTimeout port s
  | .sensorMessageSent port => Sys2Proof.Machine.execSensorMessageSent port s
  | .descriptionTimerExpiry port => Sys2Proof.Machine.execDescriptionTimerExpiry port s
  | .silenceTimerExpiry port => Sys2Proof.Machine.execSilenceTimerExpiry port s
  | .switchTimerExpiry port => Sys2Proof.Machine.execSwitchTimerExpiry port s
  | .nudgeTimerExpiry port => Sys2Proof.Machine.execNudgeTimerExpiry port s
  | .sampleClock => Sys2Proof.Machine.execSampleClock s
  | .speakerPwmWrap => Sys2Proof.Machine.execSpeakerPwmWrap s
  | .supplySample mv => Sys2Proof.Machine.execSupplySample mv s
  | .temperatureReading deg => Sys2Proof.Machine.execTemperatureReading deg s
  | .graceTimerExpiry source => Sys2Proof.Machine.execGraceTimerExpiry source s
  | .keepaliveTimerExpiry => Sys2Proof.Machine.execKeepaliveTimerExpiry s
  | .tabletMessage bytes => Sys2Proof.Machine.execTabletMessage bytes s
  | .tabletGapTimeout => Sys2Proof.Machine.execTabletGapTimeout s
  | .recordSent => Sys2Proof.Machine.execRecordSent s
  | .deadlineTimerExpiry entry => Sys2Proof.Machine.execDeadlineTimerExpiry entry s
  | .linkUpFall => Sys2Proof.Machine.execLinkUpFall s
  | .linkUpRise => Sys2Proof.Machine.execLinkUpRise s
  | .restartDone => Sys2Proof.Machine.execRestartDone s
  | .setMotor h ch mode value cue keep => Sys2Proof.Machine.execSetMotor h ch mode value cue keep s
  | .setFollow h ch f cue keep => Sys2Proof.Machine.execSetFollow h ch f cue keep s
  | .configMotor h ch kind p => Sys2Proof.Machine.execConfigMotor h ch kind p s
  | .resetPosition h ch value => Sys2Proof.Machine.execResetPosition h ch value s
  | .setPublish h period items => Sys2Proof.Machine.execSetPublish h period items s
  | .setListen h index source item limit => Sys2Proof.Machine.execSetListen h index source item limit s
  | .dropListen h index => Sys2Proof.Machine.execDropListen h index s
  | .joinGroups h mask => Sys2Proof.Machine.execJoinGroups h mask s
  | .sendCue h mask cue => Sys2Proof.Machine.execSendCue h mask cue s
  | .dropCues h cue => Sys2Proof.Machine.execDropCues h cue s
  | .listCues h filter => Sys2Proof.Machine.execListCues h filter s
  | .stageSnapshot h cue keep => Sys2Proof.Machine.execStageSnapshot h cue keep s
  | .stageRearm h cue keep => Sys2Proof.Machine.execStageRearm h cue keep s
  | .setSensorMode h port mode => Sys2Proof.Machine.execSetSensorMode h port mode s
  | .portReset h port => Sys2Proof.Machine.execPortReset h port s
  | .setWatch h index w => Sys2Proof.Machine.execSetWatch h index w s
  | .clearWatch h index => Sys2Proof.Machine.execClearWatch h index s
  | .rearm h index => Sys2Proof.Machine.execRearm h index s
  | .queueNotes h start notes => Sys2Proof.Machine.execQueueNotes h start notes s
  | .startSound h cue keep => Sys2Proof.Machine.execStartSound h cue keep s
  | .stopSound h arg cue keep => Sys2Proof.Machine.execStopSound h arg cue keep s
  | .clearSound h => Sys2Proof.Machine.execClearSound h s
  | .setVolume h master mark => Sys2Proof.Machine.execSetVolume h master mark s
  | .configFault h source reaction grace style form mask => Sys2Proof.Machine.execConfigFault h source reaction grace style form mask s
  | .halt h reaction style form mask => Sys2Proof.Machine.execHalt h reaction style form mask s
  | .clearFault h => Sys2Proof.Machine.execClearFault h s
  | .setKeepalive h period => Sys2Proof.Machine.execSetKeepalive h period s
  | .setEventMask h mask => Sys2Proof.Machine.execSetEventMask h mask s
  | .readStatus h sect => Sys2Proof.Machine.execReadStatus h sect s
  | .restart h => Sys2Proof.Machine.execRestart h s
  | .startBitSeen => Sys2Proof.Machine.execStartBitSeen s
  | .lengthAbove40Read len => Sys2Proof.Machine.execLengthAbove40Read len s
  | .firstFallingEdge port => Sys2Proof.Machine.execFirstFallingEdge port s
  | .tabletBadMessage => Sys2Proof.Machine.execTabletBadMessage s

end Sys2Proof.Machine
end

