-- ==== Sys2Proof/Safety.lean ====
section
/-! DEFINITION. What a safe state is, in the terms the statements use: one predicate for each unit, kept by every step. -/

namespace Sys2Proof.Machine

/-! ## Halts and trips (R71 to R74, R140, R149) -/

/-- A station that is HALTED holds every channel by its halt flag, and its player is STOPPED with an empty queue; a channel
held by its halt flag or by a watch is in COAST or BRAKE. -/
abbrev Stilled (s : State) : Prop :=
  (s.fault.halted = true →
    (∀ c : Fin 4, (s.chan c).haltFlag = true) ∧ s.sound.player = .stopped ∧ s.sound.queue = []) ∧
  ∀ c : Fin 4, (s.chan c).haltFlag = true ∨ (s.chan c).tripHolders ≠ 0 → (s.chan c).mode.stopped = true

/-! ## The send queue (R16 to R18, R21, R22) -/

/-- The frames of a queue that are in contention. -/
def contenders (q : List Frame) : List Frame := q.filter fun f => f.contending

/-- The send queue: 8 frames at most, 7 of them non-HALT, one PUBLISH frame, one frame in contention, and one only while
SENDING or in the VERDICT state; every frame bears the own number and has fewer than 8 spoils; a held PUBLISH frame means one
in contention; a standalone station is OFFLINE with nothing queued. -/
abbrev LinkSafe (s : State) : Prop :=
  s.link.queue.length ≤ 8 ∧
  (s.link.queue.filter fun f => !f.isHalt).length ≤ 7 ∧
  (s.link.queue.filter Frame.isPublish).length ≤ 1 ∧
  (contenders s.link.queue).length ≤ 1 ∧
  (contenders s.link.queue ≠ [] → s.link.state = .sending ∨ s.link.state = .verdict) ∧
  (∀ f ∈ s.link.queue, claimStation f.claim = s.link.own ∧ f.spoils < 8) ∧
  (s.link.held.isSome = true → ∃ f ∈ s.link.queue, f.isPublish = true ∧ f.contending = true) ∧
  (s.standalone = true → s.link.state = .offline ∧ s.link.queue = [])

/-! ## The report queue and the relay table (R161, R165, R167, R168) -/

/-- The report queue leaves a free segment for the next answer and is empty while LINK_UP is low; its records have at most 60
body bytes; the counts stay within a byte; the event mask holds no bit that names no kind; at most 8 relay entries, each with
its own identity. -/
abbrev ReportSafe (s : State) : Prop :=
  usedSegments s.tablet.reports ≤ 47 ∧
  (s.tablet.linkUp = false → s.tablet.reports = []) ∧
  (∀ r ∈ s.tablet.reports, r.length ≤ 60) ∧
  s.tablet.lost ≤ 255 ∧ s.tablet.badCount ≤ 255 ∧
  s.tablet.mask &&& ~~~eventMaskAll = 0 ∧
  s.tablet.relays.length ≤ 8 ∧
  (s.tablet.relays.map fun e => e.id).Nodup ∧
  ∀ e ∈ s.tablet.relays, e.id < s.tablet.nextRelay

/-! ## The cue table (R41, R44) -/

/-- At most 16 entries, each of a cue number 1 to 15, no two of one cue number and target. -/
abbrev CueSafe (s : State) : Prop :=
  s.cue.table.length ≤ 16 ∧
  (∀ e ∈ s.cue.table, 1 ≤ e.cue ∧ e.cue ≤ 15) ∧
  s.cue.table.Pairwise fun a b => ¬(a.cue = b.cue ∧ a.action.target = b.action.target)

/-! ## Sound (R126, R127, R136, R138) -/

/-- A note within the ranges of R126. -/
abbrev noteSafe (n : Note) : Prop :=
  (n.frequency = 0 ∨ (40 ≤ n.frequency ∧ n.frequency ≤ 8000)) ∧ 1 ≤ n.duration ∧ n.duration ≤ 10000 ∧ n.volume ≤ 15 ∧
  n.gap ≤ 255

/-- At most 32 notes queued, every note within its ranges, and the speaker compare within 240 ticks of silence. -/
abbrev SoundSafe (s : State) : Prop :=
  s.sound.queue.length ≤ 32 ∧ (∀ n ∈ s.sound.queue, noteSafe n) ∧ (∀ n ∈ s.sound.current.toList, noteSafe n) ∧
  s.sound.master ≤ 15 ∧ s.sound.mark ≤ 31 ∧
  (10 ≤ s.sound.nextCompare ∧ s.sound.nextCompare ≤ 490) ∧ (10 ≤ s.sound.runCompare ∧ s.sound.runCompare ≤ 490)

/-! ## Motor channels (R59, R80, R82, R85, R88 to R90, R92) -/

/-- Parameters within the ranges of R59. -/
abbrev paramsSafe (p : Params) : Prop :=
  p.kp ≤ 4095 ∧ p.ki ≤ 1023 ∧ p.kx ≤ 255 ∧ (1 ≤ p.vmax ∧ p.vmax ≤ 4000) ∧ (1 ≤ p.acc ∧ p.acc ≤ 400) ∧ p.limit ≤ 1000 ∧
  (100 ≤ p.ilim ∧ p.ilim ≤ 3000) ∧ (100 ≤ p.stallTime ∧ p.stallTime ≤ 5000) ∧ p.tolerance ≤ 255

/-- A channel's duty lies within Leff and Leff within L (R88); the compare values lie within the period (R92); the
integrator, the target's fraction, the stall counter and the glitch count lie within their ranges. -/
abbrev chanSafe (ch : Channel) : Prop :=
  paramsSafe ch.params ∧ (∀ p ∈ ch.pendingParams.toList, paramsSafe p) ∧
  ch.duty.natAbs ≤ ch.leff ∧ ch.leff ≤ ch.params.limit ∧
  ch.nextC ≤ 2000 ∧ ch.runC ≤ 2000 ∧
  ch.integ.natAbs ≤ 256000 ∧ ch.tf < 8 ∧ ch.speed.natAbs ≤ 32767 ∧
  ch.stall ≤ ch.params.stallTime ∧ ch.settle ≤ 20 ∧ ch.glitch ≤ 255

/-- Every channel is within its limits, and no Leff exceeds 800 while the supply is in SAG (R88, R89). -/
abbrev MotorSafe (s : State) : Prop :=
  (∀ c : Fin 4, chanSafe (s.chan c)) ∧ (s.supply.state = .sag → ∀ c : Fin 4, (s.chan c).leff ≤ 800)

/-! ## Fault sources, listen table and keepalive (R29, R146, R147, R154) -/

/-- A source spends time in GRACE and only there; REMOTE aside, CHANNEL_STOP is a STALL source's alone; a listen entry's age
runs while it is FRESH and only then, its source station is 1 to 14 and its item code is valid; a keepalive timer runs only
with a period. -/
abbrev UnitSafe (s : State) : Prop :=
  (∀ k : Fin 8, (s.source k).timer.isSome = decide ((s.source k).state = .grace)) ∧
  (∀ k : Fin 8, 4 ≤ k.val → (s.source k).reaction ≠ .channelStop) ∧
  (∀ k : Fin 8, (s.source k).grace ≤ 2000) ∧
  (∀ k : Fin 16, ∀ e ∈ (s.entry k).toList,
    e.age.isSome = decide (e.state = .fresh) ∧ e.source ≠ 0 ∧ e.source ≠ 15 ∧ validItem e.item = true ∧
    20 ≤ e.limit ∧ e.limit ≤ 2000) ∧
  (s.fault.keepTimer.isSome = true → s.fault.keepPeriod ≠ 0)

/-- The whole invariant. -/
abbrev Safe (s : State) : Prop :=
  Stilled s ∧ LinkSafe s ∧ ReportSafe s ∧ CueSafe s ∧ SoundSafe s ∧ MotorSafe s ∧ UnitSafe s

end Sys2Proof.Machine
end

