-- ==== Sys2Proof/Certificates/Slice0/Obligations.lean ====
section
/-! DEFINITION. The statements for the provers: what each command does by the numbered rules, and the invariants every step
keeps. -/

section Statements

open Sys2Proof Sys2Proof.Machine

/-! ## The machine as a whole -/

/-- The oldest waiting command is executed with the queue's rest (the queue is the model's: DESIGN CHOICE, log entry 5). With no
command waiting and no reset in progress a step counts one millisecond and does nothing else: clock, ages and times in GRACE
up, every running timer down to 0, all the rest as it was; in a reset it does nothing (the model's choice: log entry 4). -/
def Obligations.StepRunsFrontCommand : Prop :=
  (∀ (c : Instr) (rest : List Instr) (s : State), s.pending = c :: rest →
    step s = exec c { s with pending := rest }) ∧
  (∀ s : State, s.pending = [] → s.inReset = true → step s = .next s) ∧
  (∀ s : State, s.pending = [] → s.inReset = false →
    ∃ t, step s = .next t ∧
      t = { s with
        link := { s.link with roster := t.link.roster, dupTimer := s.link.dupTimer.map (· - 1) }
        publish := { s.publish with timer := s.publish.timer.map (· - 1) }
        listen := t.listen
        cue := { s.cue with clock := s.cue.clock + 1 }
        ports := t.ports
        fault := { s.fault with sources := t.fault.sources, keepTimer := s.fault.keepTimer.map (· - 1) }
        tablet := { s.tablet with relays := s.tablet.relays.map fun r => { r with deadline := r.deadline - 1 } } } ∧
      (∀ n : BitVec 4, t.link.present n = (s.link.present n).map (· - 1)) ∧
      (∀ k : Fin 16, t.entry k = (s.entry k).map fun e => { e with age := e.age.map (· + 1) }) ∧
      (∀ p : Fin 4, let x := s.port p
        t.port p = { x with
          reading := { x.reading with age := min 65535 (x.reading.age + 1) }, measuring := x.measuring.map (· - 1),
          descTimer := x.descTimer.map (· - 1), silenceTimer := x.silenceTimer.map (· - 1),
          switchTimer := x.switchTimer.map (· - 1), nudgeTimer := x.nudgeTimer.map (· - 1) }) ∧
      (∀ k : Fin 8, t.source k = { s.source k with timer := (s.source k).timer.map (· + 1) }))

/-- No command reads past its own turn: whatever it does, the commands that wait stay as they are. The queue of waiting
commands is the model's own, and so is this rule about it (DESIGN CHOICE, log entry 5); the spec says only that each step is
whole and indivisible. -/
def Obligations.CommandsKeepQueue : Prop :=
  ∀ (c : Instr) (s t : State), exec c s = .next t → t.pending = s.pending

/-- The own number and rate follow the straps last read at every moment (R1, R178). That they are read at RESET_END alone, the
end of both a cold reset and a RESTART, is the model's choice: R1 says at cold reset and at RESTART, R178 at the end of cold
reset and at RESTART (log entries 1 and 11). -/
def Obligations.IdentityFollowsStraps : Prop :=
  ∀ (c : Instr) (s t : State), s.link.own = s.straps.stn → s.link.rate = s.straps.rate → exec c s = .next t →
    t.link.own = t.straps.stn ∧ t.link.rate = t.straps.rate ∧
    (t.straps = s.straps ∨ ∃ p b d up, c = .resetEnd p b d up ∧ t.straps = p)

/-- A station becomes RUNNING, and a channel's halt flag clears, by CLEAR_FAULT, a reset or RESTART alone; a request may
come inside a tablet message or a delivered frame (R71, R72, R149, R153). -/
def Obligations.HaltsLastUntilCleared : Prop :=
  ∀ (c : Instr) (s t : State), exec c s = .next t →
    (∀ h, c ≠ .clearFault h) → (∀ h, c ≠ .restart h) → c ≠ .coldReset → c ≠ .frameDelivered →
    (∀ b, c ≠ .tabletMessage b) →
    (s.fault.halted = true → t.fault.halted = true) ∧
    ∀ ch : Fin 4, (s.chan ch).haltFlag = true → (t.chan ch).haltFlag = true

/-- The step counts of a channel move by an encoder transition, RESET_POSITION or a reset alone: the motion computation
never writes the position (R69, R79). A mirror value changes by a delivered frame, SET_LISTEN, DROP_LISTEN or a reset alone
(R36). -/
def Obligations.PositionsAndMirrorsHold : Prop :=
  (∀ (c : Instr) (s t : State), exec c s = .next t →
    c ≠ .frameDelivered → (∀ b, c ≠ .tabletMessage b) → (∀ h ch v, c ≠ .resetPosition h ch v) →
    (∀ ch a b, c ≠ .encoderTransition ch a b) → (∀ h, c ≠ .restart h) → c ≠ .coldReset →
    ∀ ch : Fin 4, (t.chan ch).position = (s.chan ch).position) ∧
  (∀ (c : Instr) (s t : State), exec c s = .next t →
    c ≠ .frameDelivered → (∀ b, c ≠ .tabletMessage b) → (∀ h i x y z, c ≠ .setListen h i x y z) →
    (∀ h i, c ≠ .dropListen h i) → (∀ h, c ≠ .restart h) → c ≠ .coldReset →
    ∀ k : Fin 16, (t.entry k).map (fun e => e.value) = (s.entry k).map fun e => e.value)

/-! ## Invariants that every step keeps -/

/-- A HALTED station stays still and silent, and a held channel stays in COAST or BRAKE, through every step (R71, R73, R140,
R149). -/
def Obligations.StilledKept : Prop :=
  ∀ s t : State, Stilled s → step s = .next t → Stilled t

/-- Every step keeps the send queue's bounds (R16 to R18, R22). -/
def Obligations.LinkSafeKept : Prop :=
  ∀ s t : State, LinkSafe s → step s = .next t → LinkSafe t

/-- Every step keeps the bounds of the report queue, the relay table and the event mask (R161, R165, R167, R168). -/
def Obligations.ReportSafeKept : Prop :=
  ∀ s t : State, ReportSafe s → step s = .next t → ReportSafe t

/-- Every step keeps the cue table's bounds (R41, R44). -/
def Obligations.CueSafeKept : Prop :=
  ∀ s t : State, CueSafe s → step s = .next t → CueSafe t

/-- Every step keeps the notes within their ranges and the speaker compare within 240 of silence (R126, R127, R136). -/
def Obligations.SoundSafeKept : Prop :=
  ∀ s t : State, SoundSafe s → step s = .next t → SoundSafe t

/-- Every step keeps every channel's duty within Leff and Leff within L, at most 800 in SAG (R88, R89). -/
def Obligations.MotorSafeKept : Prop :=
  ∀ s t : State, MotorSafe s → step s = .next t → MotorSafe t

/-- Every step keeps the fault sources, the listen entries and the keepalive consistent (R29, R146, R147, R154). -/
def Obligations.UnitSafeKept : Prop :=
  ∀ s t : State, UnitSafe s → step s = .next t → UnitSafe t

/-- The state after reset meets every invariant. What the state right after a reset is taken holds, block by block, as the
rules give it, the motor bridges and the speaker driver off (R14, R23, R28, R39, R41, R59, R76, R96, R115, R125, R129, R138,
R141, R146, R154, R165, R171). That no command waits is the model's choice (log entry 5). -/
def Obligations.ResetIsSafe : Prop :=
  (Safe State.reset) ∧
  (let s := State.reset
  s.inReset = true ∧
  s.link.state = .offline ∧ s.link.queue = [] ∧ s.link.held = none ∧ s.link.dupTimer = none ∧
  s.link.delivered = 0 ∧ s.link.spoiled = 0 ∧ s.link.runt = 0 ∧ s.link.broken = 0 ∧
  (∀ n : BitVec 4, s.link.present n = none) ∧
  s.publish = { current := { items := [], period := 0 }, pendingSet := none, timer := none } ∧
  (∀ k : Fin 16, s.entry k = none) ∧ s.cue = { membership := 1, table := [], clock := 0 } ∧
  (∀ c : Fin 4, (s.chan c).kind = .encoded ∧ (s.chan c).mode = .coast ∧ (s.chan c).haltFlag = false ∧
    (s.chan c).tripHolders = 0 ∧ (s.chan c).position = 0 ∧ (s.chan c).speed = 0 ∧ (s.chan c).integ = 0 ∧
    (s.chan c).leff = 1000 ∧ (s.chan c).duty = 0 ∧ (s.chan c).nextC = 0 ∧ (s.chan c).runC = 0 ∧
    (s.chan c).bridge = .allOff ∧ (s.chan c).params =
      { kp := 600, ki := 40, kx := 64, vmax := 1600, acc := 20, limit := 1000, ilim := 1500, stallTime := 1000,
        tolerance := 4 }) ∧
  (∀ p : Fin 4, (s.port p).state = .empty ∧ (s.port p).settled = .empty ∧ (s.port p).reading.valid = false ∧
    (s.port p).snapshot.valid = false ∧ (s.port p).totalBad = 0 ∧ (s.port p).tx = []) ∧
  (∀ k : Fin 8, s.watch k = none) ∧
  s.sound = { queue := [], player := .stopped, current := none, count := 0, stopAtEnd := false, phase := 0, master := 15,
              mark := 4, arm := true, nextCompare := 250, runCompare := 250 } ∧
  s.speaker = .off ∧
  s.supply.state = .normal ∧ s.fault.halted = false ∧ s.fault.manual = none ∧ s.fault.remote = none ∧
  s.fault.keepPeriod = 0 ∧ s.fault.keepTimer = none ∧
  (∀ k : Fin 8, (s.source k).state = .inactive ∧ (s.source k).condition = false) ∧
  (s.source 4).reaction = .localHalt ∧ (s.source 4).grace = 500 ∧ (s.source 5).reaction = .report ∧
  (s.source 5).grace = 2000 ∧ (s.source 0).reaction = .channelStop ∧ (s.source 7).reaction = .localHalt ∧
  s.tablet.reports = [] ∧ s.tablet.lost = 0 ∧ s.tablet.badCount = 0 ∧ s.tablet.relays = [] ∧ s.tablet.route = .none ∧
  s.tablet.mask = 0x1FFFFFFF ∧ s.tablet.rx = .hunt ∧ s.pending = [])

/-! ## The brick link -/

/-- At the end of a quiet gap a station that may contend begins the oldest of the frames with the smallest claim value (R4,
R7, R16). A station with nothing queued goes to IDLE, a partial frame counted RUNT, or waits in IDLE for a frame it may then
begin at once (R4, R7, R14). That the event changes nothing in OFFLINE, SENDING and VERDICT, where no quiet gap can end, is
the model's choice (log entry 8). -/
def Obligations.QuietGapEndContends : Prop :=
  (∀ (s : State) (pre post : List Frame) (f : Frame),
    s.link.state = .listening ∨ s.link.state = .idle ∨ s.link.state = .receiving ∨ s.link.state = .stuck →
    s.link.queue = pre ++ f :: post →
    (∀ g ∈ pre, f.claim.toNat < g.claim.toNat) → (∀ g ∈ post, f.claim.toNat ≤ g.claim.toNat) →
    ∃ l, exec .quietGapEnd s = .next { s with link := l } ∧
      l = { s.link with
        state := .sending, gapOpen := false, queue := pre ++ { f with contending := true } :: post,
        runt := if s.link.state = .receiving then min 65535 (s.link.runt + 1) else s.link.runt,
        rxBroken := l.rxBroken, driving := l.driving, rxHeld := l.rxHeld }) ∧
  (∀ s : State,
    (s.link.state = .offline ∨ s.link.state = .sending ∨ s.link.state = .verdict → exec .quietGapEnd s = .next s) ∧
    (s.link.queue = [] → s.link.state = .idle →
      exec .quietGapEnd s = .next { s with link := { s.link with gapOpen := true } }) ∧
    (s.link.queue = [] → s.link.state = .listening ∨ s.link.state = .receiving ∨ s.link.state = .stuck →
      exec .quietGapEnd s = .next { s with link := { s.link with
        state := .idle, gapOpen := true, rxBroken := false, driving := false, rxHeld := none,
        runt := if s.link.state = .receiving then min 65535 (s.link.runt + 1) else s.link.runt } }))

/-- In IDLE another station's start bit makes the station a receiver, and a first character with mark bit 0 is BROKEN (R5,
R7, R14). A broken frame is counted once; where the verdict slot cannot be placed the station waits in LISTENING, and a
length above 40 is counted nowhere (R5). -/
def Obligations.ReceiverFollowsLine : Prop :=
  (∀ s : State, s.link.state = .idle →
    exec .startBitSeen s = .next { s with link := { s.link with
      state := .receiving, gapOpen := false, rxBroken := false, driving := false, rxHeld := none } } ∧
    exec (.frameBroken .claim) s = .next { s with link := { s.link with
      state := .listening, gapOpen := false, rxBroken := false, driving := false, rxHeld := none,
      broken := min 65535 (s.link.broken + 1) } }) ∧
  (∀ s : State, s.link.state = .receiving →
    let waits : Link := { s.link with
      state := .listening, gapOpen := false, rxBroken := false, driving := false, rxHeld := none }
    exec (.frameBroken .length) s = .next { s with link := { waits with broken := min 65535 (s.link.broken + 1) } } ∧
    (∀ len : Byte, s.link.rxBroken = false → len.toNat ≤ 40 →
      exec (.frameBroken (.later len)) s = .next { s with link := { s.link with
        rxBroken := true, broken := min 65535 (s.link.broken + 1) } }) ∧
    (∀ len : Byte, s.link.rxBroken = true → len.toNat ≤ 40 → exec (.frameBroken (.later len)) s = .next s) ∧
    (∀ len : Byte, 40 < len.toNat → exec (.lengthAbove40Read len) s = .next { s with link := waits }))

/-- A lost contention leaves every queued frame its place, age and spoil count; a held PUBLISH frame takes the place of the
one that lost (R8, R17). -/
def Obligations.ContentionLossKeepsFrames : Prop :=
  ∀ s : State, s.link.state = .sending →
    (s.link.held = none →
      exec .contentionLoss s = .next { s with link := { s.link with
        state := .receiving, rxBroken := false, driving := false, rxHeld := none,
        queue := s.link.queue.map fun f => { f with contending := false } } }) ∧
    ∀ (g p : Frame) (pre post : List Frame), s.standalone = false → s.link.held = some g →
      s.link.queue = pre ++ p :: post → p.isPublish = true →
      (∀ f ∈ pre ++ post, f.isPublish = false ∧ f.contending = false) →
      exec .contentionLoss s = .next { s with link := { s.link with
        state := .receiving, rxBroken := false, driving := false, rxHeld := none, held := none,
        queue := pre ++ newFrame s.link.own .publish g.payload :: post } }

/-- A bit clash: the sender counts the frame spoiled and receives the rest of the frame on the line; below the eighth spoil its
frame goes back to waiting, at the eighth it is removed, LINK_SPOILED is raised and its owner is told; DUPLICATE_STATION is
raised last, with argument 1, unless its suppression timer runs (R9, R10, R13). A dominant verdict slot: every station that
reached it counts the frame spoiled; below the eighth spoil the sender's frame waits again, at the eighth it is removed,
LINK_SPOILED is raised and then its owner is told (R13). A held PUBLISH frame then takes the place of the PUBLISH frame that
waits again, or is offered where that one was removed (R17). A receiver of a spoiled frame counts it and goes to IDLE, and hands
nothing over (R13). What the owner of a frame spoiled for the eighth time does (R13, R162, R165). The order of these effects is
the model's (log entry 16). -/
def Obligations.SpoiledFramesWaitOrLeave : Prop :=
  (∀ (s : State) (pre post : List Frame) (f : Frame),
    s.link.state = .sending → s.link.held = none → s.link.queue = pre ++ f :: post → f.contending = true →
    (∀ g ∈ pre ++ post, g.contending = false) → f.spoils < 7 →
    let t : State := { s with link := { s.link with
      state := .receiving, rxBroken := false, driving := false, rxHeld := none,
      spoiled := min 65535 (s.link.spoiled + 1),
      queue := pre ++ { f with contending := false, spoils := f.spoils + 1 } :: post } }
    exec .bitClash s = .next (if s.link.dupTimer.isSome then t
      else raiseEvent .duplicateStation (s.link.own.setWidth 8) 1 { t with link := { t.link with dupTimer := some 1000 } })) ∧
  (∀ (s : State) (pre post : List Frame) (f : Frame),
    s.link.state = .sending → s.link.held = none → s.link.queue = pre ++ f :: post → f.contending = true →
    (∀ g ∈ pre ++ post, g.contending = false) → 7 ≤ f.spoils →
    let t := tellSpoiledOut f.owner (raiseEvent .linkSpoiled (BitVec.ofNat 8 (f.claim.toNat / 64)) (f.claim.setWidth 32)
      { s with link := { s.link with
        state := .receiving, rxBroken := false, driving := false, rxHeld := none,
        spoiled := min 65535 (s.link.spoiled + 1), queue := pre ++ post } })
    exec .bitClash s = .next (if s.link.dupTimer.isSome then t
      else raiseEvent .duplicateStation (s.link.own.setWidth 8) 1 { t with link := { t.link with dupTimer := some 1000 } })) ∧
  (∀ (s : State) (pre post : List Frame) (f : Frame),
    s.link.state = .verdict → s.link.held = none → s.link.queue = pre ++ f :: post → f.contending = true →
    (∀ g ∈ pre ++ post, g.contending = false) →
    let l : Link := { s.link with
      state := .idle, gapOpen := false, rxBroken := false, driving := false, rxHeld := none,
      spoiled := min 65535 (s.link.spoiled + 1) }
    (f.spoils < 7 → exec .frameSpoiled s = .next { s with link := { l with
      queue := pre ++ { f with contending := false, spoils := f.spoils + 1 } :: post } }) ∧
    (7 ≤ f.spoils → exec .frameSpoiled s = .next (tellSpoiledOut f.owner
      (raiseEvent .linkSpoiled (BitVec.ofNat 8 (f.claim.toNat / 64)) (f.claim.setWidth 32)
        { s with link := { l with queue := pre ++ post } })))) ∧
  (∀ (s : State) (pre post : List Frame) (f g : Frame),
    s.standalone = false → s.link.held = some g → s.link.queue = pre ++ f :: post → f.isPublish = true →
    f.contending = true → (∀ x ∈ pre ++ post, x.isPublish = false ∧ x.contending = false) →
    let l : Link := { s.link with
      rxBroken := false, driving := false, rxHeld := none, spoiled := min 65535 (s.link.spoiled + 1) }
    let replaced : List Frame := pre ++ newFrame s.link.own .publish g.payload :: post
    (s.link.state = .sending → f.spoils < 7 →
      let t : State := { s with link := { l with state := .receiving, held := none, queue := replaced } }
      exec .bitClash s = .next (if s.link.dupTimer.isSome then t
        else raiseEvent .duplicateStation (s.link.own.setWidth 8) 1
          { t with link := { t.link with dupTimer := some 1000 } })) ∧
    (s.link.state = .sending → 7 ≤ f.spoils →
      let u := raiseEvent .linkSpoiled (BitVec.ofNat 8 (f.claim.toNat / 64)) (f.claim.setWidth 32)
        { s with link := { l with state := .receiving, queue := pre ++ post } }
      let t := (offer .publish g.payload { u with link := { u.link with held := none } }).1
      exec .bitClash s = .next (if s.link.dupTimer.isSome then t
        else raiseEvent .duplicateStation (s.link.own.setWidth 8) 1
          { t with link := { t.link with dupTimer := some 1000 } })) ∧
    (s.link.state = .verdict → f.spoils < 7 → exec .frameSpoiled s =
      .next { s with link := { l with state := .idle, gapOpen := false, held := none, queue := replaced } }) ∧
    (s.link.state = .verdict → 7 ≤ f.spoils →
      let u := raiseEvent .linkSpoiled (BitVec.ofNat 8 (f.claim.toNat / 64)) (f.claim.setWidth 32)
        { s with link := { l with state := .idle, gapOpen := false, queue := pre ++ post } }
      exec .frameSpoiled s = .next (offer .publish g.payload { u with link := { u.link with held := none } }).1)) ∧
  (∀ s : State, s.link.state = .verdict → s.link.held = none → (∀ f ∈ s.link.queue, f.contending = false) →
    exec .frameSpoiled s = .next { s with link := { s.link with
      state := .idle, gapOpen := false, rxBroken := false, driving := false, rxHeld := none,
      spoiled := min 65535 (s.link.spoiled + 1) } }) ∧
  (∀ s : State,
    tellSpoiledOut .halt s = s ∧ tellSpoiledOut .publish s = s ∧ (∀ k, tellSpoiledOut (.cueWatch k) s = s) ∧
    (∀ h, tellSpoiledOut (.cueRequest h) s = answer h .linkSpoiled [] s) ∧
    (tellSpoiledOut .answer s).tablet.lost = min 255 (s.tablet.lost + 1) ∧
    (∀ n, (tellSpoiledOut (.notice n) s).tablet.lost = min 255 (s.tablet.lost + (n + 1))) ∧
    ∀ (pre post : List Relay) (e : Relay), s.tablet.relays = pre ++ e :: post → (∀ r ∈ pre ++ post, r.id ≠ e.id) →
      tellSpoiledOut (.command e.id) s =
        placeAnswer [1, e.tag, e.dest.setWidth 8, 16] { s with tablet := { s.tablet with relays := pre ++ post } })

/-- A sender sends the characters of its frame in the order of R6: the claim with mark bit 1, then with mark bit 0 the length,
the payload and the check character, eleven levels each (R2, R6). A receiver of those characters finds no break and reads the
frame back, and it judges every frame of a station 1 to 14 sound and drives nothing (R5, R6, R11). It finds a frame faulty by
its check character, a low stop bit, its claim or a break, and then drives the slot; a sender does not judge its own (R11). -/
def Obligations.VerdictJudgesFrame : Prop :=
  (∀ (s : State) (rx : RxFrame),
    let c := rx.claim.toNat
    let faulty : Bool := decide (crc8 (rx.length :: rx.payload) ≠ rx.check ∨ rx.stopLow = true ∨
      c / 4 % 16 = 0 ∨ c / 4 % 16 = 15 ∨ (c / 64 = 2 ∧ c % 4 = 3) ∨ (c / 64 ≠ 2 ∧ c % 4 ≠ 0) ∨ s.link.rxBroken = true)
    (s.link.state = .receiving → exec (.verdict rx) s = .next { s with link := { s.link with
      state := .verdict, rxBroken := false, driving := faulty,
      rxHeld := if faulty then none else some { claim := rx.claim, payload := rx.payload } } }) ∧
    (s.link.state = .sending → exec (.verdict rx) s = .next { s with link := { s.link with
      state := .verdict, rxBroken := false, driving := false, rxHeld := none } })) ∧
  (∀ f : Frame, f.payload.length ≤ 40 →
    let len : Byte := BitVec.ofNat 8 f.payload.length
    let check := crc8 (len :: f.payload)
    let plain (v : Byte) : LineChar := { value := v, mark := false, stopLow := false }
    f.chars = { value := f.claim, mark := true, stopLow := false } :: plain len :: (f.payload.map plain ++ [plain check]) ∧
    (∀ c ∈ f.chars, c.levels.length = 11 ∧ c.levels.head? = some false ∧ c.levels.getLast? = some true ∧
      c.levels[9]? = some c.mark ∧ ∀ i : Fin 8, c.levels[i.val + 1]? = some (c.value.getLsbD (7 - i.val))) ∧
    brokenAt f.chars = none ∧
    readFrame f.chars =
      some { claim := f.claim, length := len, payload := f.payload, check := check, stopLow := false }) ∧
  (∀ (own : BitVec 4) (owner : FrameOwner) (payload : List Byte) (rx : RxFrame) (s : State),
    own ≠ 0 → own ≠ 15 → payload.length ≤ 40 → readFrame (newFrame own owner payload).chars = some rx →
    s.link.state = .receiving → s.link.rxBroken = false →
    exec (.verdict rx) s = .next { s with link := { s.link with
      state := .verdict, rxBroken := false, driving := false,
      rxHeld := some { claim := (newFrame own owner payload).claim, payload := payload } } }) ∧
  (∀ l : Link,
    (l.state ≠ .sending → l.sends = []) ∧
    ∀ pre post f, l.state = .sending → l.queue = pre ++ f :: post → f.contending = true →
      (∀ g ∈ pre, g.contending = false) → l.sends = f.chars)

/-- A delivered DIRECTED frame for another station is counted and restarts its sender's roster entry; nothing else of it is
kept (R12, R20). One that bears the own number touches no roster entry and raises DUPLICATE_STATION with argument 2, unless
the suppression timer runs (R10). A CUE frame delivered from another sender, whatever number it bears, is taken if its payload is
well formed and its mask is 0 or meets the membership; otherwise nothing more changes (R10, R12, R40, R50, R51); that
DUPLICATE_STATION comes before the taking is the model's choice (log entry 16). A sender takes its own CUE frame by the same test,
and then its SEND_CUE is answered OK, while a watch's frame is answered nothing (R12, R49, R122). A HALT frame is not taken by
its sender: its delivery removes it and counts it, and that is all (R12). The delivery of a COMMAND frame marks its relay entry
SENT (R12, R162). -/
def Obligations.DeliveriesCounted : Prop :=
  (∀ (s : State) (f : HeldFrame) (tag addressee : Byte) (rest : List Byte),
    s.link.state = .verdict → (∀ g ∈ s.link.queue, g.contending = false) → s.link.rxHeld = some f →
    f.payload = tag :: addressee :: rest → addressee ≠ s.link.own.setWidth 8 →
    f.claim.toNat / 64 = 2 → f.claim.toNat % 4 = 0 →
    let st := claimStation f.claim
    let t0 : State := { s with link := { s.link with
      state := .idle, gapOpen := false, rxBroken := false, driving := false, rxHeld := none,
      delivered := min 65535 (s.link.delivered + 1) } }
    let t : State := { t0 with link := { t0.link with roster := s.link.roster.set st.toNat (some 1000) st.isLt } }
    (st ≠ s.link.own → exec .frameDelivered s =
      .next (if (s.link.present st).isSome then t else raiseEvent .stationFound (st.setWidth 8) 0 t)) ∧
    (st = s.link.own → exec .frameDelivered s = .next (if s.link.dupTimer.isSome then t0
      else raiseEvent .duplicateStation (s.link.own.setWidth 8) 2
        { t0 with link := { t0.link with dupTimer := some 1000 } }))) ∧
  (∀ (s : State) (f : HeldFrame),
    s.link.state = .verdict → (∀ g ∈ s.link.queue, g.contending = false) → s.link.rxHeld = some f →
    f.claim.toNat / 64 = 1 →
    let st := claimStation f.claim
    let t0 : State := { s with link := { s.link with
      state := .idle, gapOpen := false, rxBroken := false, driving := false, rxHeld := none,
      delivered := min 65535 (s.link.delivered + 1) } }
    let t1 : State := { t0 with link := { t0.link with roster := s.link.roster.set st.toNat (some 1000) st.isLt } }
    let heard : State :=
      if st = s.link.own then
        (if s.link.dupTimer.isSome then t0
        else raiseEvent .duplicateStation (s.link.own.setWidth 8) 2 { t0 with link := { t0.link with dupTimer := some 1000 } })
      else if (s.link.present st).isSome then t1 else raiseEvent .stationFound (st.setWidth 8) 0 t1
    (∀ mask cue : Byte, f.payload = [mask, cue] →
      (1 ≤ cue.toNat → cue.toNat ≤ 15 → mask = 0 ∨ mask &&& s.cue.membership ≠ 0 →
        exec .frameDelivered s = .next (takeCue cue.toNat heard)) ∧
      (cue = 0 ∨ 15 < cue.toNat ∨ (mask ≠ 0 ∧ mask &&& s.cue.membership = 0) → exec .frameDelivered s = .next heard)) ∧
    (f.payload.length ≠ 2 → exec .frameDelivered s = .next heard)) ∧
  (∀ (s : State) (pre post : List Frame) (f : Frame) (mask cue : Byte),
    s.link.state = .verdict → s.link.held = none → s.link.queue = pre ++ f :: post → f.contending = true →
    (∀ g ∈ pre, g.contending = false) → f.payload = [mask, cue] →
    let t : State := { s with link := { s.link with
      state := .idle, gapOpen := false, rxBroken := false, driving := false, rxHeld := none,
      delivered := min 65535 (s.link.delivered + 1), queue := pre ++ post } }
    let taken : State :=
      if 1 ≤ cue.toNat ∧ cue.toNat ≤ 15 ∧ (mask = 0 ∨ mask &&& s.cue.membership ≠ 0) then takeCue cue.toNat t else t
    (∀ h, f.owner = .cueRequest h → exec .frameDelivered s = .next (answer h .ok [] taken)) ∧
    (∀ k, f.owner = .cueWatch k → exec .frameDelivered s = .next taken)) ∧
  (∀ (s : State) (pre post : List Frame) (f : Frame),
    s.link.state = .verdict → s.link.held = none → s.link.queue = pre ++ f :: post → f.contending = true →
    (∀ g ∈ pre, g.contending = false) → f.owner = .halt →
    exec .frameDelivered s = .next { s with link := { s.link with
      state := .idle, gapOpen := false, rxBroken := false, driving := false, rxHeld := none,
      delivered := min 65535 (s.link.delivered + 1), queue := pre ++ post } }) ∧
  (∀ (s : State) (pre post : List Frame) (f : Frame) (ra rb : List Relay) (e : Relay),
    s.link.state = .verdict → s.link.held = none → s.link.queue = pre ++ f :: post → f.contending = true →
    (∀ g ∈ pre, g.contending = false) → f.owner = .command e.id →
    s.tablet.relays = ra ++ e :: rb → (∀ r ∈ ra ++ rb, r.id ≠ e.id) →
    exec .frameDelivered s = .next { s with
      link := { s.link with
        state := .idle, gapOpen := false, rxBroken := false, driving := false, rxHeld := none,
        delivered := min 65535 (s.link.delivered + 1), queue := pre ++ post }
      tablet := { s.tablet with relays := ra ++ { e with status := .sent } :: rb } })

/-- A delivered HALT frame whose mask meets the membership halts the station with the REMOTE style and stores who sent it
(R12, R151). -/
def Obligations.HaltFrameHaltsStation : Prop :=
  ∀ (s : State) (f : HeldFrame) (mask cause : Byte),
    s.link.state = .verdict → (∀ g ∈ s.link.queue, g.contending = false) → s.link.rxHeld = some f →
    f.claim.toNat / 64 = 0 → claimStation f.claim ≠ s.link.own → f.payload = [mask, cause] → cause.toNat ≤ 8 →
    (mask = 0 ∨ mask &&& s.cue.membership ≠ 0) →
    ∃ t, exec .frameDelivered s = .next t ∧
      t.fault = { s.fault with halted := true, remote := some { station := claimStation f.claim, cause := cause } } ∧
      (∀ c : Fin 4, t.chan c = { s.chan c with
        mode := match s.fault.remoteStyle with | .brake => .brake | .coast => .coast,
        integ := 0, duty := 0, nextC := 0, settle := 0, moveDone := false, lapse := false, haltFlag := true }) ∧
      t.sound = { s.sound with
        player := .stopped, current := none, count := 0, stopAtEnd := false, queue := [], nextCompare := 250 } ∧
      t.link.delivered = min 65535 (s.link.delivered + 1) ∧
      t.ports = s.ports ∧ t.watches = s.watches ∧ t.cue = s.cue ∧ t.listen = s.listen ∧ t.publish = s.publish ∧
      t.supply = s.supply

/-- A delivered COMMAND frame for this station sets the report route to its sender, restarts the keepalive and executes the
request, whose answer goes back to the sender (R160). -/
def Obligations.DeliveredCommandExecutes : Prop :=
  ∀ (s : State) (f : HeldFrame) (tag : Byte) (r : Request),
    s.link.state = .verdict → (∀ g ∈ s.link.queue, g.contending = false) → s.link.rxHeld = some f →
    f.claim.toNat / 64 = 2 → f.claim.toNat % 4 = 0 → claimStation f.claim ≠ s.link.own →
    (s.link.present (claimStation f.claim)).isSome = true →
    f.payload = requestBody tag (s.link.own.setWidth 8) r → r.wf = true →
    let st := claimStation f.claim
    exec .frameDelivered s =
      exec (r.instr { tag := tag, station := s.link.own.setWidth 8, dest := .station st })
        (restartKeepalive { s with
          link := { s.link with
            state := .idle, gapOpen := false, rxBroken := false, driving := false, rxHeld := none,
            delivered := min 65535 (s.link.delivered + 1), roster := s.link.roster.set st.toNat (some 1000) st.isLt }
          tablet := { s.tablet with route := .station st } })

/-- A stuck line puts every state but OFFLINE in STUCK, with every queued frame kept and LINE_STUCK raised; a held PUBLISH
frame takes the place of the one it waited behind (R15, R17). A silence timer that has run out makes its station ABSENT with
STATION_LOST, and the suppression timer that has run out stops (R10, R20). An expiry of a timer that is stopped or has ms left,
as after a frame of the station, changes nothing: that the ms are counted by idle steps and compared is the model's choice
(log entry 7). -/
def Obligations.StuckLineAndTimers : Prop :=
  (∀ s : State,
    (s.link.state = .offline → exec .lineStuck s = .next s) ∧
    (s.link.state ≠ .offline → s.link.held = none →
      exec .lineStuck s = .next (raiseEvent .lineStuck 0 0 { s with link := { s.link with
        state := .stuck, gapOpen := false, rxBroken := false, driving := false, rxHeld := none,
        queue := s.link.queue.map fun f => { f with contending := false } } })) ∧
    (∀ (g p : Frame) (pre post : List Frame), s.link.state ≠ .offline → s.standalone = false → s.link.held = some g →
      s.link.queue = pre ++ p :: post → p.isPublish = true →
      (∀ f ∈ pre ++ post, f.isPublish = false ∧ f.contending = false) →
      exec .lineStuck s = .next (raiseEvent .lineStuck 0 0 { s with link := { s.link with
        state := .stuck, gapOpen := false, rxBroken := false, driving := false, rxHeld := none, held := none,
        queue := pre ++ newFrame s.link.own .publish g.payload :: post } }))) ∧
  (∀ (s : State) (n : BitVec 4),
    (s.link.present n = some 0 → exec (.stationSilenceExpiry n) s = .next (raiseEvent .stationLost (n.setWidth 8) 1000
      { s with link := { s.link with roster := s.link.roster.set n.toNat none n.isLt } })) ∧
    (s.link.present n ≠ some 0 → exec (.stationSilenceExpiry n) s = .next s) ∧
    (s.link.dupTimer = some 0 →
      exec .duplicateSuppressionExpiry s = .next { s with link := { s.link with dupTimer := none } }) ∧
    (s.link.dupTimer ≠ some 0 → exec .duplicateSuppressionExpiry s = .next s))

/-- A standalone station's controller stays in OFFLINE: no event of the line changes anything, and a frame offered to it is
never queued (R22). -/
def Obligations.StandaloneStaysOffline : Prop :=
  ∀ s : State, s.link.own = 0 ∨ s.link.own = 15 → s.link.state = .offline →
    (∀ c ∈ [Instr.quietGapEnd, .contentionLoss, .bitClash, .frameDelivered, .frameSpoiled, .lineStuck, .startBitSeen],
      exec c s = .next s) ∧
    (∀ a, exec (.frameBroken a) s = .next s) ∧ (∀ rx, exec (.verdict rx) s = .next s) ∧
    (∀ len, exec (.lengthAbove40Read len) s = .next s) ∧ ∀ o p, offer o p s = (s, true)

/-! ## Publishing and listening -/

/-- SET_PUBLISH: a period or a list that a check refuses changes nothing and, for a list, answers how many positions the first
failing check refuses and which: those from 8 on, those of an invalid code, those of a code that stands earlier. A list that
passes waits for a running timer's expiry, or is adopted at once and starts the timer (R26). -/
def Obligations.SetPublishTakesSet : Prop :=
  ∀ (h : ReqCtx) (period : Half) (items : List Byte) (s : State),
    let p := period.toNat
    let good : Prop := p = 0 ∨ (10 ≤ p ∧ p ≤ 1000 ∧ p % 10 = 0)
    let set : PublishSet := { items := items, period := p }
    let refused (l : List Nat) : State := answer h .badArg (BitVec.ofNat 8 l.length :: l.map (BitVec.ofNat 8)) s
    let invalid := (List.range items.length).filter fun i => !validItem (items.getD i 0)
    let repeated := (List.range items.length).filter fun i => (items.take i).contains (items.getD i 0)
    (¬ good → exec (.setPublish h period items) s = .next (answer h .badArg [] s)) ∧
    (good → items.length ≤ 8 → (∀ c ∈ items, validItem c = true) → items.Nodup →
      exec (.setPublish h period items) s = .next (answer h .ok [] { s with publish :=
        if s.publish.timer.isSome then { s.publish with pendingSet := some set }
        else { current := set, pendingSet := none, timer := if p = 0 then none else some p } })) ∧
    (good → 8 < items.length → items.length ≤ 54 →
      exec (.setPublish h period items) s = .next (refused (List.range' 8 (items.length - 8)))) ∧
    (good → items.length ≤ 8 → invalid ≠ [] → exec (.setPublish h period items) s = .next (refused invalid)) ∧
    (good → items.length ≤ 8 → invalid = [] → repeated ≠ [] →
      exec (.setPublish h period items) s = .next (refused repeated))

/-- An expiry of the publish timer adopts a pending set, stops at a period of 0, and else samples the current items into one
frame: it is held while another PUBLISH frame is in contention, replaces a waiting one in its place, or enters the queue (R17,
R27); a timer with ms left does not expire (log entry 7). What an item of each kind sends: the position or speed of an ENCODED
channel, a value of a valid reading or snapshot, "no value" for any other; the battery voltage; a bit for each watch FIRED or
TRIPPED; the station fault state. A value equal to the "no value" pattern goes one count higher (R24, R25). -/
def Obligations.PublishExpiryOffersSample : Prop :=
  (∀ s : State, s.publish.timer = some 0 → s.publish.pendingSet = none → s.publish.current.period ≠ 0 →
    s.standalone = false → s.link.state ≠ .idle →
    let f := newFrame s.link.own .publish (publishPayload s.publish.current.items s)
    let t : State := { s with publish := { s.publish with timer := some s.publish.current.period } }
    ((∃ g ∈ s.link.queue, g.isPublish = true ∧ g.contending = true) →
      exec .publishTimerExpiry s = .next { t with link := { s.link with held := some f } }) ∧
    (∀ pre post g, s.link.queue = pre ++ g :: post → g.isPublish = true → g.contending = false →
      (∀ x ∈ pre ++ post, x.isPublish = false) →
      exec .publishTimerExpiry s = .next { t with link := { s.link with queue := pre ++ f :: post } }) ∧
    ((∀ g ∈ s.link.queue, g.isPublish = false) → s.link.queue.length < 7 →
      exec .publishTimerExpiry s = .next { t with link := { s.link with queue := s.link.queue ++ [f] } })) ∧
  (∀ s : State,
    (s.publish.timer ≠ some 0 → exec .publishTimerExpiry s = .next s) ∧
    (s.publish.timer = some 0 → s.publish.pendingSet = none → s.publish.current.period = 0 →
      exec .publishTimerExpiry s = .next { s with publish := { s.publish with timer := none } }) ∧
    (∀ x, s.publish.timer = some 0 → s.publish.pendingSet = some x → exec .publishTimerExpiry s =
      exec .publishTimerExpiry { s with publish := { s.publish with current := x, pendingSet := none } })) ∧
  (∀ (s : State) (c : Fin 4),
    let sent (v : Word) : Word := if v = 0x80000000#32 then 0x80000001#32 else v
    ((s.chan c).kind = .plain → itemWord (BitVec.ofNat 8 (16 + c.val)) s = 0x80000000#32 ∧
      itemWord (BitVec.ofNat 8 (32 + c.val)) s = 0x80000000#32) ∧
    ((s.chan c).kind = .encoded → itemWord (BitVec.ofNat 8 (16 + c.val)) s = sent (s.chan c).position ∧
      itemWord (BitVec.ofNat 8 (32 + c.val)) s = sent (BitVec.ofInt 32 (s.chan c).speed)) ∧
    (∀ (p n : Fin 4), itemWord (BitVec.ofNat 8 (48 + 4 * p.val + n.val)) s =
      match (s.port p).reading.valid, (s.port p).reading.values[n.val]? with
      | true, some v => sent v
      | _, _ => 0x80000000#32) ∧
    (∀ (p n : Fin 4), itemWord (BitVec.ofNat 8 (64 + 4 * p.val + n.val)) s =
      match (s.port p).snapshot.valid, (s.port p).snapshot.values[n.val]? with
      | true, some v => sent v
      | _, _ => 0x80000000#32) ∧
    itemWord 0x50 s = sent (BitVec.ofNat 32 (s.supply.window.toList.sum / 16)) ∧
    (itemWord 0x60 s).toNat < 256 ∧
    (∀ k : Fin 8, (itemWord 0x60 s).getLsbD k.val = match s.watch k with
      | some w => decide (w.state ≠ .armed)
      | none => false) ∧
    itemWord 0x70 s = (if s.fault.halted then 1 else 0))

/-- SET_LISTEN checks index, station and item BAD_ARG, then a station and item held at another index IN_USE (R30). The limit
is brought to 20 to 2000, LIMITED where that changes it. An unused entry, and an entry of another station or item that no
consumer names, is made a NEVER entry; one that a consumer names is refused IN_USE. For the same station and item only the limit
changes, but a FRESH entry whose age equals or passes the new limit goes STALE at once with MIRROR_STALE. The answer carries the
mirror's state and value as they stand after the request; a refused request changes nothing (R30, R35). -/
def Obligations.SetListenMakesEntry : Prop :=
  (∀ (h : ReqCtx) (k : Fin 16) (source : BitVec 4) (item : Byte) (limit : Half) (s : State),
    source ≠ 0 → source ≠ 15 → source ≠ s.link.own → validItem item = true →
    let n := limit.toNat
    let lim := if n < 20 then 20 else if 2000 < n then 2000 else n
    let code : Result := if lim = n then .ok else .limited
    let i : Instr := .setListen h (BitVec.ofNat 8 k.val) (source.setWidth 8) item limit
    let held (e : ListenEntry) : Prop := e.source = source ∧ e.item = item
    let anew : State := s.setEntry k (some
      { source := source, item := item, limit := lim, value := 0, state := .never, age := none })
    (∀ (j : Fin 16) (e : ListenEntry), j ≠ k → s.entry j = some e → held e → exec i s = .next (answer h .inUse [] s)) ∧
    ((∀ j : Fin 16, j ≠ k → ∀ e ∈ (s.entry j).toList, ¬ held e) →
      (s.entry k = none → exec i s = .next (answer h code [0, 0, 0, 0, 0] anew)) ∧
      (∀ e, s.entry k = some e → ¬ held e →
        (s.useCount k = 0 → exec i s = .next (answer h code [0, 0, 0, 0, 0] anew)) ∧
        (s.useCount k ≠ 0 → exec i s = .next (answer h .inUse [] s))) ∧
      (∀ e, s.entry k = some e → held e →
        let expires : Prop := e.state = .fresh ∧ ∃ a, e.age = some a ∧ lim ≤ a
        (expires → exec i s = .next (answer h code (2 :: wordBytes e.value) (raiseEvent .mirrorStale (BitVec.ofNat 8 k.val) 1
          (s.setEntry k (some { e with limit := lim, state := .stale, age := none }))))) ∧
        (¬ expires → exec i s = .next (answer h code
          ((match e.state with | .never => 0 | .fresh => 1 | .stale => 2) :: wordBytes e.value)
          (s.setEntry k (some { e with limit := lim }))))))) ∧
  (∀ (h : ReqCtx) (index source item : Byte) (limit : Half) (s : State),
    15 < index.toNat ∨ source = 0 ∨ 14 < source.toNat ∨ source = s.link.own.setWidth 8 ∨ validItem item = false →
    exec (.setListen h index source item limit) s = .next (answer h .badArg [] s))


/-- DROP_LISTEN in every case (R31). -/
def Obligations.DropListenEmptiesEntry : Prop :=
  ∀ (h : ReqCtx) (s : State),
    (∀ index : Byte, 15 < index.toNat → exec (.dropListen h index) s = .next (answer h .badArg [] s)) ∧
    ∀ k : Fin 16,
      (s.entry k = none → exec (.dropListen h (BitVec.ofNat 8 k.val)) s = .next (answer h .ok [] s)) ∧
      ((s.entry k).isSome = true → s.useCount k ≠ 0 →
        exec (.dropListen h (BitVec.ofNat 8 k.val)) s = .next (answer h .inUse [] s)) ∧
      ((s.entry k).isSome = true → s.useCount k = 0 →
        exec (.dropListen h (BitVec.ofNat 8 k.val)) s = .next (answer h .ok [] (s.setEntry k none)))

/-- A delivered PUBLISH frame with one item gives the listen entry of its sender and item that value, FRESH, its age from 0,
with MIRROR_FRESH where it was STALE; "no value" makes a FRESH entry STALE with argument 2 and changes no other (R32 to R34).
A frame with several items gives each entry of the sender the value of its own item; one with an item twice, or of a length
that is no multiple of 5, gives none (R32). The age timer of a FRESH entry that has reached its limit expires into STALE, its
value kept, with MIRROR_STALE argument 1 (R35); an entry whose timer a frame has restarted does not expire (R35), and neither
does one that is not FRESH (log entry 7: ms are counted by idle steps). -/
def Obligations.MirrorsFollowFrames : Prop :=
  (∀ (s : State) (f : HeldFrame),
    s.link.state = .verdict → (∀ g ∈ s.link.queue, g.contending = false) → s.link.rxHeld = some f →
    f.claim.toNat / 64 = 3 → claimStation f.claim ≠ s.link.own →
    (s.link.present (claimStation f.claim)).isSome = true → (∀ j : Fin 8, s.watch j = none) →
    let st := claimStation f.claim
    let t : State := { s with link := { s.link with
      state := .idle, gapOpen := false, rxBroken := false, driving := false, rxHeld := none,
      delivered := min 65535 (s.link.delivered + 1), roster := s.link.roster.set st.toNat (some 1000) st.isLt } }
    (∀ (k : Fin 16) (e : ListenEntry) (v : Word), f.payload = e.item :: wordBytes v → s.entry k = some e → e.source = st →
      (∀ j : Fin 16, j ≠ k → ∀ x ∈ (s.entry j).toList, ¬(x.source = e.source ∧ x.item = e.item)) →
      (v ≠ 0x80000000#32 →
        let u := t.setEntry k (some { e with value := v, state := .fresh, age := some 0 })
        exec .frameDelivered s =
          .next (if e.state = .stale then raiseEvent .mirrorFresh (BitVec.ofNat 8 k.val) v u else u)) ∧
      (v = 0x80000000#32 → e.state = .fresh → exec .frameDelivered s =
        .next (raiseEvent .mirrorStale (BitVec.ofNat 8 k.val) 2
          (t.setEntry k (some { e with state := .stale, age := none })))) ∧
      (v = 0x80000000#32 → e.state ≠ .fresh → exec .frameDelivered s = .next t)) ∧
    (∀ es : List (Byte × Word), f.payload = es.flatMap (fun e => e.1 :: wordBytes e.2) →
      (¬(es.map Prod.fst).Nodup → exec .frameDelivered s = .next t) ∧
      ((es.map Prod.fst).Nodup → s.tablet.mask = 0 → ∃ u : State, exec .frameDelivered s = .next u ∧
        u = { t with listen := u.listen } ∧
        (∀ k : Fin 16, s.entry k = none → u.entry k = none) ∧
        ∀ (k : Fin 16) (e : ListenEntry), s.entry k = some e →
          (e.source ≠ st → u.entry k = some e) ∧
          ((∀ v, (e.item, v) ∉ es) → u.entry k = some e) ∧
          ∀ v, e.source = st → (e.item, v) ∈ es → u.entry k = some (
            if v ≠ 0x80000000#32 then { e with value := v, state := .fresh, age := some 0 }
            else if e.state = .fresh then { e with state := .stale, age := none } else e))) ∧
    (f.payload.length % 5 ≠ 0 → exec .frameDelivered s = .next t)) ∧
  (∀ (k : Fin 16) (s : State),
    (∀ e a, s.entry k = some e → e.state = .fresh → e.age = some a →
      (e.limit ≤ a → exec (.ageTimerExpiry k) s = .next (raiseEvent .mirrorStale (BitVec.ofNat 8 k.val) 1
        (s.setEntry k (some { e with state := .stale, age := none })))) ∧
      (a < e.limit → exec (.ageTimerExpiry k) s = .next s)) ∧
    ((∀ e, s.entry k = some e → e.state ≠ .fresh) → exec (.ageTimerExpiry k) s = .next s))

/-! ## Groups and cues -/

/-- A request with a cue number 1 to 15 stages its entry: in the place of the one with its cue and target, else behind the
newest while fewer than 16 are held, else TABLE_FULL; nothing is performed (R42 to R44). -/
def Obligations.StagingPlacesEntry : Prop :=
  ∀ (h : ReqCtx) (cue : Byte) (keep : Bool) (ch : Fin 4) (value : Word) (s : State), 1 ≤ cue.toNat → cue.toNat ≤ 15 →
    let b : Byte := BitVec.ofNat 8 ch.val
    ∀ x ∈ [(Instr.stageSnapshot h cue keep, CueAction.snapshot), (.stageRearm h cue keep, .rearmAll),
        (.startSound h cue keep, .startSound), (.stopSound h 0 cue keep, .stopSound .now),
        (.stopSound h 1 cue keep, .stopSound .atEnd), (.setMotor h b 0 value cue keep, .motor ch .coast),
        (.setMotor h b 1 value cue keep, .motor ch .brake), (.setMotor h b 4 value cue keep, .motor ch (.position value)),
        (.setMotor h b 5 value cue keep, .motor ch .hold)],
    let c := x.1
    let a := x.2
    let e : CueEntry := { cue := cue.toNat, action := a, keep := keep }
    let same (y : CueEntry) : Prop := y.cue = cue.toNat ∧ y.action.target = a.target
    ((∀ y ∈ s.cue.table, ¬ same y) → s.cue.table.length < 16 →
      exec c s = .next (answer h .ok
        [BitVec.ofNat 8 (s.cue.table.length + 1), BitVec.ofNat 8 (s.cue.table.length + 1)]
        (s.withTable (s.cue.table ++ [e])))) ∧
    ((∀ y ∈ s.cue.table, ¬ same y) → 16 ≤ s.cue.table.length → exec c s = .next (answer h .tableFull [] s)) ∧
    (∀ pre post y, s.cue.table = pre ++ y :: post → same y → (∀ z ∈ pre, ¬ same z) →
      exec c s = .next (answer h .ok
        [BitVec.ofNat 8 (pre.length + 1), BitVec.ofNat 8 s.cue.table.length] (s.withTable (pre ++ e :: post))))

/-- STAGE_SNAPSHOT with cue 0 copies every reading into its snapshot with the station clock as snapshot time, in every station
state (R45, R55, R113); that the snapshot of a reading that is not valid keeps the reading's mode is DEDUCED (log entry 23).
STAGE_REARM with cue 0 rearms every FIRED watch whose last evaluation was false and passes the rest over; the channels and the
sound unit are left alone where none is TRIPPED (R45, R56). -/
def Obligations.ImmediateCueActions : Prop :=
  (∀ (h : ReqCtx) (keep : Bool) (s : State),
    ∃ t : State, exec (.stageSnapshot h 0 keep) s = .next (answer h .ok (wordBytes s.cue.clock) t) ∧
      t = { s with ports := t.ports } ∧
      ∀ p : Fin 4, t.port p = { s.port p with snapshot :=
        if (s.port p).reading.valid then
          { valid := true, mode := (s.port p).reading.mode, values := (s.port p).reading.values, time := s.cue.clock }
        else { valid := false, mode := (s.port p).reading.mode, values := [], time := s.cue.clock } }) ∧
  (∀ (h : ReqCtx) (keep : Bool) (s : State),
    (∀ (k : Fin 8) (w : Watch), s.watch k = some w → w.state ≠ .tripped) →
    ∃ t : State, exec (.stageRearm h 0 keep) s =
        .next (answer h .ok [BitVec.ofNat 8 (all8.countP fun k => rearmable (s.watch k))] t) ∧
      t = { s with watches := t.watches } ∧
      ∀ k : Fin 8, t.watch k = match s.watch k with
        | some w => if w.state = .fired ∧ w.lastEval = false then some { w with state := .armed } else some w
        | none => none)

/-- DROP_CUES removes every entry of its cue number, or every entry for 0, and answers how many (R46). -/
def Obligations.DropCuesRemovesEntries : Prop :=
  ∀ (h : ReqCtx) (cue : Byte) (s : State),
    (15 < cue.toNat → exec (.dropCues h cue) s = .next (answer h .badArg [] s)) ∧
    (cue = 0 → exec (.dropCues h cue) s =
      .next (answer h .ok [BitVec.ofNat 8 s.cue.table.length] (s.withTable []))) ∧
    (1 ≤ cue.toNat → cue.toNat ≤ 15 → exec (.dropCues h cue) s =
      .next (answer h .ok [BitVec.ofNat 8 (s.cue.table.countP fun e => e.cue = cue.toNat)]
        (s.withTable (s.cue.table.filter fun e => e.cue ≠ cue.toNat))))

/-- JOIN_GROUPS stores the mask and answers the one it replaces; SET_EVENT_MASK does the same with the event mask, bits that
name no kind stored clear (R39, R165). LIST_CUES changes nothing and lists four bytes for each entry the filter lets
through, in staging order (R47, R174). READ_STATUS changes nothing but by its answer: a section above 5 is refused, and each
section 0 to 5 answers its fields, byte for byte, as R175 lays them out (R169, R175). -/
def Obligations.MasksAndListings : Prop :=
  (∀ (h : ReqCtx) (m : Byte) (e : Word) (s : State),
    exec (.joinGroups h m) s =
      .next (answer h .ok [s.cue.membership] { s with cue := { s.cue with membership := m } }) ∧
    ∃ t : State, exec (.setEventMask h e) s = .next (answer h .ok (wordBytes s.tablet.mask) t) ∧
      t = { s with tablet := { s.tablet with mask := t.tablet.mask } } ∧
      ∀ i : Fin 32, t.tablet.mask.getLsbD i.val = (decide (i.val < 29) && e.getLsbD i.val)) ∧
  (∀ (h : ReqCtx) (filter : Byte) (s : State),
    (15 < filter.toNat → exec (.listCues h filter) s = .next (answer h .badArg [] s)) ∧
    (filter.toNat ≤ 15 → ∃ body : List Byte,
      exec (.listCues h filter) s = .next (answer h .ok (BitVec.ofNat 8 (body.length / 4) :: body) s) ∧
      body = (s.cue.table.zipIdx 1).flatMap fun (e, i) =>
        if filter = 0 ∨ e.cue = filter.toNat then
          [BitVec.ofNat 8 i, BitVec.ofNat 8 (e.cue + if e.keep then 128 else 0), BitVec.ofNat 8 e.action.target,
            e.action.code]
        else [])) ∧
  (∀ (h : ReqCtx) (sect : Byte) (s : State),
    let yes (b : Bool) : Byte := if b then 1 else 0
    (5 < sect.toNat → exec (.readStatus h sect) s = .next (answer h .badArg [] s)) ∧
    exec (.readStatus h 0) s = .next (answer h .ok (nat16 (s.supply.window.toList.sum / 16) ++
      [(match s.supply.state with | .normal => 0 | .sag => 1 | .brownout => 2 : Byte)] ++
      halfBytes (BitVec.ofInt 16 s.supply.temperature) ++ [yes s.fault.halted] ++
      (List.ofFn fun k : Fin 8 => (match (s.source k).state with | .inactive => 0 | .grace => 1 | .latched => 2 : Byte)) ++
      [if s.fault.manual.isSome then 2 else 0] ++
      (match s.fault.remote with | some r => [r.station.setWidth 8, r.cause] | none => [0, 0])) s) ∧
    (∃ roster : BitVec 16, exec (.readStatus h 1) s = .next (answer h .ok ([s.link.own.setWidth 8, s.link.rate.setWidth 8,
        s.link.state.code] ++ nat16 s.link.delivered ++ nat16 s.link.spoiled ++ nat16 s.link.runt ++ nat16 s.link.broken
        ++ halfBytes roster ++ [BitVec.ofNat 8 s.link.queue.length]) s) ∧
      ∀ n : BitVec 4, roster.getLsbD n.toNat =
        (decide (n ≠ 0 ∧ n ≠ 15 ∧ n ≠ s.link.own) && (s.link.present n).isSome)) ∧
    (∃ holders : Byte, exec (.readStatus h 2) s = .next (answer h .ok ((List.ofFn fun c : Fin 4 =>
        [(match (s.chan c).kind with | .encoded => 0 | .plain => 1), (s.chan c).mode.code, yes (s.chan c).haltFlag] ++
          wordBytes (s.chan c).position ++ [BitVec.ofNat 8 (s.chan c).glitch]).flatten ++ [holders]) s) ∧
      holders.toNat < 16 ∧ ∀ c : Fin 4, holders.getLsbD c.val = decide ((s.chan c).tripHolders ≠ 0)) ∧
    exec (.readStatus h 3) s = .next (answer h .ok (List.ofFn fun p : Fin 4 =>
      let x := s.port p
      let type : Byte := match x.state, x.settled with
        | .analog, .generic => 1
        | .analog, .light => 2
        | .analog, .touch => 3
        | .analog, _ => 0
        | _, _ => (x.descriptor.map fun d => d.typeCode).getD 0
      let rate : Byte := if x.state = .describing ∨ x.state = .switching ∨ x.state = .streaming then
        (match x.fixedRate with
          | none => 0 | some .r2400 => 1 | some .r9600 => 2 | some .r19200 => 3 | some .r57600 => 4 | some .r115200 => 5)
        else 0
      [x.state.code, type, (x.currentMode.map (BitVec.ofNat 8)).getD 0xFF, rate] ++ nat16 x.reading.age ++
        [BitVec.ofNat 8 x.totalBad]).flatten s) ∧
    exec (.readStatus h 4) s = .next (answer h .ok ([s.sound.player.code, BitVec.ofNat 8 s.sound.queue.length,
      BitVec.ofNat 8 s.sound.master] ++ List.ofFn fun k : Fin 8 => (match s.watch k with
        | none => 0
        | some w => match w.state with | .armed => 1 | .fired => 2 | .tripped => 3 : Byte)) s) ∧
    exec (.readStatus h 5) s = .next (answer h .ok ([yes s.tablet.linkUp,
      (match s.tablet.route with | .none => 0 | .self => 0xFF | .station n => n.setWidth 8),
      BitVec.ofNat 8 s.tablet.relays.length, BitVec.ofNat 8 (48 - usedSegments s.tablet.reports),
      BitVec.ofNat 8 s.tablet.lost, BitVec.ofNat 8 s.tablet.badCount] ++ wordBytes s.tablet.mask) s))

/-- SEND_CUE: a bad cue number is refused; a standalone station takes the cue at once and answers OK; otherwise the frame is
queued and the request waits, or is answered LINK_BUSY where the queue is full and holds no waiting PUBLISH frame (R18, R22,
R49). -/
def Obligations.SendCueOffersFrame : Prop :=
  ∀ (h : ReqCtx) (mask cue : Byte) (s : State),
    (cue.toNat = 0 ∨ 15 < cue.toNat → exec (.sendCue h mask cue) s = .next (answer h .badArg [] s)) ∧
    (1 ≤ cue.toNat → cue.toNat ≤ 15 →
      (s.standalone = true → (mask = 0 ∨ mask &&& s.cue.membership ≠ 0) →
        exec (.sendCue h mask cue) s = .next (answer h .ok [] (takeCue cue.toNat s))) ∧
      (s.standalone = true → ¬(mask = 0 ∨ mask &&& s.cue.membership ≠ 0) →
        exec (.sendCue h mask cue) s = .next (answer h .ok [] s)) ∧
      (s.standalone = false → s.link.queue.length < 7 → s.link.state ≠ .idle →
        exec (.sendCue h mask cue) s = .next { s with link := { s.link with
          queue := s.link.queue ++ [{ owner := .cueRequest h, claim := BitVec.ofNat 8 (64 + 4 * s.link.own.toNat),
                                      payload := [mask, cue], spoils := 0, contending := false }] } }) ∧
      (s.standalone = false → 8 ≤ s.link.queue.length → (∀ g ∈ s.link.queue, g.isPublish = false) →
        exec (.sendCue h mask cue) s = .next (answer h .linkBusy [] s)))

/-- Taking cue n applies the entries of the table in staging order, then drops the entries of cue n that are not kept, and
raises CUE_TAKEN last with the number of entries applied; entries of other cues, the membership and the clock stay as they
were, and with no entry of cue n nothing else happens (R51). An entry is applied or refused by itself: an applied one's action
happens and is counted, a refused one raises CUE_ENTRY_REFUSED with its target and reason, and the cue goes on (R51, R52,
R54). -/
def Obligations.TakenCueAppliesEntries : Prop :=
  (∀ (n : Nat) (s : State),
    let r := applyEntries n s.cue.table s
    takeCue n s = raiseEvent .cueTaken (BitVec.ofNat 8 n) (BitVec.ofNat 32 r.2)
      { r.1 with cue := { s.cue with table := s.cue.table.filter fun e => e.cue ≠ n ∨ e.keep } } ∧
    r.2 ≤ s.cue.table.countP (fun e => e.cue = n) ∧
    ((∀ e ∈ s.cue.table, e.cue ≠ n) → r = (s, 0))) ∧
  (∀ (n : Nat) (e : CueEntry) (es : List CueEntry) (s : State),
    let applied (t : State) : State × Nat := ((applyEntries n es t).1, (applyEntries n es t).2 + 1)
    let refused (why : Word) : State × Nat :=
      applyEntries n es (raiseEvent .cueEntryRefused (BitVec.ofNat 8 n) why s)
    applyEntries n [] s = (s, 0) ∧
    (e.cue ≠ n → applyEntries n (e :: es) s = applyEntries n es s) ∧
    (e.cue = n → e.action = .startSound ∨ e.action = .stopSound .now ∨ e.action = .stopSound .atEnd →
      s.fault.halted = true → applyEntries n (e :: es) s = refused (4 * 65536 + 9)) ∧
    (e.cue = n → e.action = .startSound → s.fault.halted = false →
      applyEntries n (e :: es) s = applied (startAction s)) ∧
    (e.cue = n → e.action = .stopSound .atEnd → s.fault.halted = false →
      applyEntries n (e :: es) s = applied (s.withSound
        (if s.sound.player = .stopped then s.sound else { s.sound with stopAtEnd := true }))) ∧
    (e.cue = n → e.action = .snapshot → applyEntries n (e :: es) s = applied (takeSnapshots s)) ∧
    (e.cue = n → e.action = .rearmAll → applyEntries n (e :: es) s = applied (rearmAll s)) ∧
    (∀ c sp, e.cue = n → e.action = .motor c sp →
      (s.fault.halted = true ∨ (s.chan c).haltFlag = true →
        applyEntries n (e :: es) s = refused (BitVec.ofNat 32 (c.val * 65536 + 9))) ∧
      (s.fault.halted = false → (s.chan c).haltFlag = false → (s.chan c).tripHolders ≠ 0 →
        applyEntries n (e :: es) s = refused (BitVec.ofNat 32 (c.val * 65536 + 10))) ∧
      (s.fault.halted = false → (s.chan c).haltFlag = false → (s.chan c).tripHolders = 0 →
        (s.chan c).kind = .encoded → (∀ f k, sp = .follow f → f.source = .mirror k → (s.entry k).isSome = true) →
        applyEntries n (e :: es) s = applied (s.setChan c (enterSetpoint sp (s.chan c))))))

/-! ## Motor channels -/

/-- SET_MOTOR with cue 0 into COAST, BRAKE and OPEN: the setpoint discarded or taken, the integrator cleared, and for the
first two the duty and the compare value at 0 at once (R60, R63). The refusals of SET_MOTOR with cue 0 in their order:
BAD_ARG, FAULTED for the station or the channel, TRIPPED, NO_ENCODER (R63). -/
def Obligations.SetMotorStopsOrRefuses : Prop :=
  (∀ (h : ReqCtx) (c : Fin 4) (value : Word) (keep : Bool) (s : State),
    s.fault.halted = false → (s.chan c).haltFlag = false → (s.chan c).tripHolders = 0 →
    let ch := s.chan c
    let b : Byte := BitVec.ofNat 8 c.val
    let free : Channel := { ch with integ := 0, settle := 0, moveDone := false, lapse := false }
    exec (.setMotor h b 0 value 0 keep) s = .next (answer h .ok ([0, 0, 0, 0, 0] ++ wordBytes ch.position)
      (s.setChan c { free with mode := .coast, duty := 0, nextC := 0 })) ∧
    exec (.setMotor h b 1 value 0 keep) s = .next (answer h .ok ([1, 0, 0, 0, 0] ++ wordBytes ch.position)
      (s.setChan c { free with mode := .brake, duty := 0, nextC := 0 })) ∧
    (-1000 ≤ value.toInt → value.toInt ≤ 1000 →
      exec (.setMotor h b 2 value 0 keep) s = .next (answer h .ok ([2] ++ wordBytes value ++ wordBytes ch.position)
        (s.setChan c { free with mode := .openDrive value.toInt })))) ∧
  (∀ (h : ReqCtx) (c : Fin 4) (mode : Byte) (value : Word) (keep : Bool) (s : State),
    let i : Instr := .setMotor h (BitVec.ofNat 8 c.val) mode value 0 keep
    let bad : Prop := 5 < mode.toNat ∨ (mode = 2 ∧ (value.toInt < -1000 ∨ 1000 < value.toInt))
    (bad → exec i s = .next (answer h .badArg [] s)) ∧
    (¬ bad → s.fault.halted = true ∨ (s.chan c).haltFlag = true → exec i s = .next (answer h .faulted [] s)) ∧
    (¬ bad → s.fault.halted = false → (s.chan c).haltFlag = false → (s.chan c).tripHolders ≠ 0 →
      exec i s = .next (answer h .tripped [] s)) ∧
    (3 ≤ mode.toNat → mode.toNat ≤ 5 → s.fault.halted = false → (s.chan c).haltFlag = false →
      (s.chan c).tripHolders = 0 → (s.chan c).kind = .plain → exec i s = .next (answer h .noEncoder [] s)))

/-- SET_MOTOR with cue 0 into SPEED, POSITION and HOLD on an ENCODED channel: the set speed clamped to Vmax, the reference
seeded from the measured speed, an entry from a mode without a target bumpless (R61, R62, R63). -/
def Obligations.SetMotorClosesLoop : Prop :=
  ∀ (h : ReqCtx) (c : Fin 4) (value : Word) (keep : Bool) (s : State),
    s.fault.halted = false → (s.chan c).haltFlag = false → (s.chan c).tripHolders = 0 → (s.chan c).kind = .encoded →
    let ch := s.chan c
    let b : Byte := BitVec.ofNat 8 c.val
    let vmax : Int := ch.params.vmax
    let within (x : Int) : Int := max (-vmax) (min vmax x)
    let free : Channel := { ch with settle := 0, moveDone := false, lapse := false }
    let seeded : Channel := match ch.mode with
      | .position _ | .hold _ | .follow _ _ => free
      | _ => { free with tc := ch.position, tf := 0, v := within ch.speed }
    (∃ ref, exec (.setMotor h b 3 value 0 keep) s = .next (answer h (if within value.toInt = value.toInt then .ok else .limited)
        ([3] ++ wordBytes (BitVec.ofInt 32 (within value.toInt)) ++ wordBytes ch.position)
        (s.setChan c { free with mode := .speed (within value.toInt), ref := ref })) ∧
      ((∀ v, ch.mode ≠ .speed v) → ref = within ch.speed) ∧ ((∃ v, ch.mode = .speed v) → ref = ch.ref)) ∧
    exec (.setMotor h b 4 value 0 keep) s = .next (answer h .ok ([4] ++ wordBytes value ++ wordBytes ch.position)
      (s.setChan c { seeded with mode := .position value })) ∧
    exec (.setMotor h b 5 value 0 keep) s = .next (answer h .ok ([5] ++ wordBytes ch.position ++ wordBytes ch.position)
      (s.setChan c { seeded with mode := .hold ch.position }))

/-- SET_FOLLOW with cue 0 on an ENCODED channel, for each kind of source: FOLLOW is entered with the new record, the goal
kept from FOLLOW or the present position, and the answer says whether the source is usable (R62, R64). The refusals in the order
of R64: BAD_ARG for a channel or cue that is none, for a source of no known kind, a LOCAL source that is the channel itself or no
channel, a MIRROR index above 15 or of an unused entry, a SENSOR port or value number that is none, a numerator outside ±1024, a
denominator of 0 or above 1024, whatever the state; then, with cue 0, FAULTED of a HALTED station or a halted channel, TRIPPED,
and NO_ENCODER (R64). The argument checks are made for a staged request too (R43). -/
def Obligations.SetFollowEntersFollow : Prop :=
  (∀ (h : ReqCtx) (c d : Fin 4) (k : Fin 16) (p : Fin 4) (f : RawFollow) (src : FollowSource) (usable : Bool) (keep : Bool)
    (s : State),
    (f.source = 0 ∧ c ≠ d ∧ f.which = BitVec.ofNat 8 d.val ∧ src = .localChan d ∧
        usable = decide ((s.chan d).kind = .encoded)) ∨
      (f.source = 1 ∧ f.which = BitVec.ofNat 8 k.val ∧ src = .mirror k ∧
        ∃ e, s.entry k = some e ∧ usable = decide (e.state = .fresh)) ∨
      (f.source = 2 ∧ f.which = BitVec.ofNat 8 (p.val + 1) ∧ f.valueNumber.toNat ≤ 3 ∧
        src = .sensor p f.valueNumber.toNat ∧
        usable = ((s.port p).reading.valid && (s.port p).reading.values[f.valueNumber.toNat]?.isSome)) →
    -1024 ≤ f.numerator.toInt → f.numerator.toInt ≤ 1024 → 1 ≤ f.denominator.toNat → f.denominator.toNat ≤ 1024 →
    s.fault.halted = false → (s.chan c).haltFlag = false → (s.chan c).tripHolders = 0 → (s.chan c).kind = .encoded →
    let ch := s.chan c
    let r : FollowRec :=
      { source := src, num := f.numerator.toInt, den := f.denominator.toNat, offset := f.offset }
    let free : Channel := { ch with settle := 0, moveDone := false, lapse := false }
    let seeded : Channel := match ch.mode with
      | .position _ | .hold _ | .follow _ _ => free
      | _ => { free with tc := ch.position, tf := 0, v := max (-(ch.params.vmax : Int)) (min ch.params.vmax ch.speed) }
    ∃ goal, exec (.setFollow h (BitVec.ofNat 8 c.val) f 0 keep) s =
        .next (answer h .ok (wordBytes ch.position ++ [if usable then 1 else 0])
          (s.setChan c { seeded with mode := .follow r goal })) ∧
      (∀ q g, ch.mode = .follow q g → goal = g) ∧ ((∀ q g, ch.mode ≠ .follow q g) → goal = ch.position)) ∧
  (∀ (h : ReqCtx) (c : Fin 4) (f : RawFollow) (cue : Byte) (keep : Bool) (s : State),
    let b : Byte := BitVec.ofNat 8 c.val
    let names (src : FollowSource) : Prop := match src with
      | .localChan d => f.source = 0 ∧ f.which.toNat = d.val ∧ d ≠ c
      | .mirror k => f.source = 1 ∧ f.which.toNat = k.val ∧ (s.entry k).isSome = true
      | .sensor p n => f.source = 2 ∧ f.which.toNat = p.val + 1 ∧ f.valueNumber.toNat = n ∧ n ≤ 3
    let inRange : Prop := -1024 ≤ f.numerator.toInt ∧ f.numerator.toInt ≤ 1024 ∧ 1 ≤ f.denominator.toNat ∧
      f.denominator.toNat ≤ 1024
    ((∀ src, ¬ names src) ∨ ¬ inRange ∨ 15 < cue.toNat →
      exec (.setFollow h b f cue keep) s = .next (answer h .badArg [] s)) ∧
    (∀ ch : Byte, 3 < ch.toNat → exec (.setFollow h ch f cue keep) s = .next (answer h .badArg [] s)) ∧
    (∀ src, names src → inRange →
      (s.fault.halted = true ∨ (s.chan c).haltFlag = true →
        exec (.setFollow h b f 0 keep) s = .next (answer h .faulted [] s)) ∧
      (s.fault.halted = false → (s.chan c).haltFlag = false → (s.chan c).tripHolders ≠ 0 →
        exec (.setFollow h b f 0 keep) s = .next (answer h .tripped [] s)) ∧
      (s.fault.halted = false → (s.chan c).haltFlag = false → (s.chan c).tripHolders = 0 → (s.chan c).kind = .plain →
        exec (.setFollow h b f 0 keep) s = .next (answer h .noEncoder [] s))))


/-- CONFIG_MOTOR: a change of kind away from COAST and BRAKE is refused BUSY; a taken request changes the kind at once and
makes the clamped parameters pending, a channel made ENCODED filling its speed history with its position (R59, R65). -/
def Obligations.ConfigMotorSetsPending : Prop :=
  ∀ (h : ReqCtx) (c : Fin 4) (kind : Byte) (p : RawParams) (s : State) (k : ChanKind),
    (kind = 0 ∧ k = .encoded) ∨ (kind = 1 ∧ k = .plain) →
    let ch := s.chan c
    let i : Instr := .configMotor h (BitVec.ofNat 8 c.val) kind p
    let cl (lo hi x : Nat) : Nat := max lo (min hi x)
    let q : Params :=
      { kp := cl 0 4095 p.kp.toNat, ki := cl 0 1023 p.ki.toNat, kx := p.kx.toNat, vmax := cl 1 4000 p.vmax.toNat,
        acc := cl 1 400 p.acc.toNat, limit := cl 0 1000 p.limit.toNat, ilim := cl 100 3000 p.ilim.toNat,
        stallTime := cl 100 5000 p.stallTime.toNat, tolerance := p.tolerance.toNat }
    (ch.kind ≠ k → ch.mode ≠ .coast → ch.mode ≠ .brake → exec i s = .next (answer h .busy [] s)) ∧
    (ch.kind = k ∨ ch.mode = .coast ∨ ch.mode = .brake →
      ∃ code, exec i s = .next (answer h code (paramBytes q) (s.setChan c { ch with
          kind := k, pendingParams := some q,
          history := if ch.kind = .plain ∧ k = .encoded then Vector.replicate 8 ch.position else ch.history })) ∧
        (code = .ok ∨ code = .limited) ∧
        (code = .ok ↔ q.kp = p.kp.toNat ∧ q.ki = p.ki.toNat ∧ q.vmax = p.vmax.toNat ∧ q.acc = p.acc.toNat ∧
          q.limit = p.limit.toNat ∧ q.ilim = p.ilim.toNat ∧ q.stallTime = p.stallTime.toNat))

/-- RESET_POSITION shifts the position, the history and, where a mode has one, the goal and target by the same distance, and
keeps the mode with its follow record; the distance from target to goal and the next measured speed stay as they were, and so
does every other channel (R66). -/
def Obligations.ResetPositionShifts : Prop :=
  ∀ (h : ReqCtx) (c : Fin 4) (value : Word) (s : State),
    let d := value - (s.chan c).position
    ∃ ch : Channel,
      exec (.resetPosition h (BitVec.ofNat 8 c.val) value) s =
        .next (answer h .ok (wordBytes (s.chan c).position) (s.setChan c ch)) ∧
      ch = { s.chan c with position := value, history := ch.history, mode := ch.mode, tc := ch.tc } ∧
      (∀ i : Fin 8, wrapDiff value (ch.history.get i) = wrapDiff (s.chan c).position ((s.chan c).history.get i)) ∧
      (match (s.chan c).mode with
        | .position g => ch.mode = .position (g + d) ∧ ch.tc = (s.chan c).tc + d
        | .hold g => ch.mode = .hold (g + d) ∧ ch.tc = (s.chan c).tc + d
        | .follow r g => ch.mode = .follow r (g + d) ∧ ch.tc = (s.chan c).tc + d
        | m => ch.mode = m ∧ ch.tc = (s.chan c).tc) ∧
      ∀ g g', (s.chan c).mode.goal = some g → ch.mode.goal = some g' →
        wrapDiff g' ch.tc = wrapDiff g (s.chan c).tc ∧ wrapDiff g' value = wrapDiff g (s.chan c).position

/-- An encoder line that changes moves an ENCODED channel by one count, up where line 1 leads and down where line 2 does;
both lines at once count one glitch; a PLAIN channel counts nothing (R69), and neither does a station in reset, whose counts
are held at their reset values (R76, log entry 10). A wrap of the PWM counter loads the next compare, but a reversal passes
through a period of 0; the bridge is off in COAST and in BROWNOUT, braked in BRAKE and at 0, and otherwise drives for the
running compare (R93 to R95). -/
def Obligations.EncoderAndBridge : Prop :=
  (∀ (c : Fin 4) (s : State) (a b : Bool),
    let ch := s.chan c
    ch.line1 = a → ch.line2 = b →
    (s.inReset = false → ch.kind = .encoded →
      exec (.encoderTransition c (!b) a) s = .next (s.setChan c
        { ch with line1 := !b, line2 := a, position := ch.position + 1 }) ∧
      exec (.encoderTransition c b (!a)) s = .next (s.setChan c
        { ch with line1 := b, line2 := !a, position := ch.position - 1 }) ∧
      exec (.encoderTransition c (!a) (!b)) s = .next (s.setChan c
        { ch with line1 := !a, line2 := !b, glitch := min 255 (ch.glitch + 1) })) ∧
    (s.inReset = true ∨ ch.kind = .plain → ∀ x y, exec (.encoderTransition c x y) s = .next (s.setChan c
      { ch with line1 := x, line2 := y }))) ∧
  (∀ (c : Fin 4) (s : State), s.inReset = false →
    ∃ (runC : Nat) (runDir : Dir) (p : BridgePattern),
      exec (.pwmWrap c) s = .next (s.setChan c { s.chan c with runC := runC, runDir := runDir, bridge := p }) ∧
      let ch := s.chan c
      ((ch.nextDir = ch.runDir ∨ ch.runC = 0) → ch.nextC ≠ 0 → runC = ch.nextC ∧ runDir = ch.nextDir) ∧
      (ch.nextC = 0 → runC = 0 ∧ runDir = ch.runDir) ∧
      (ch.nextDir ≠ ch.runDir → ch.runC ≠ 0 → runC = 0 ∧ runDir = ch.runDir) ∧
      (s.supply.state = .brownout ∨ ch.mode = .coast → p = .allOff) ∧
      (s.supply.state ≠ .brownout → ch.mode = .brake → p = .lowSides) ∧
      (s.supply.state ≠ .brownout → ch.mode ≠ .coast → ch.mode ≠ .brake →
        p = if runC = 0 then .lowSides else .drive runDir runC))

/-! ## The motion computation -/

/-- Whatever a control period does, it ends with the duty within Leff, Leff within the ceiling, the compare value twice the
duty or 0 below 8, and no duty in COAST or BRAKE (R77, R88, R92). A current above Ilim never raises Leff, which falls by 50 to
the floor; an Leff below the floor is kept (R88, log entry 26). A held period of a PLAIN channel within Ilim: integrator, settle
counter, duty, compare and stall count 0, Leff climbing by 10 (R78, R79, R88, R90, R92). Pending parameters are adopted before
any stage: the set speed, stall count, Leff and duty brought within them (R65, R89, R90). A period runs its stages in their
order: measure, after which the watches of an ENCODED channel's position and speed act before anything else; in FOLLOW the goal
from a usable source, held in a lapse, whose first period raises SOURCE_STALE with its cause; profile; settle, with MOVE_DONE at the twentieth settled period; reference; regulator or open drive; Leff and the
stall count, which a period of overcurrent at the floor and of little speed raises by one and any other clears; STALL told to the
fault unit, present while the count equals the stall time; the duty, clamped to Leff and 0 where the fault unit has halted the
channel (R67, R68, R70, R77 to R92). A trip by a watch on the channel's own position takes hold before the profile stage: the same period is held,
with no duty, the target, profile speed and reference kept (R78, R79, R123). A period of stall with Leff below the floor is none
(log entry 26). -/
def Obligations.PeriodBoundsDuty : Prop :=
  (∀ (c : Fin 4) (current : Nat) (s : State), s.inReset = false →
    ∃ t, exec (.controlPeriodExpiry c current) s = .next t ∧
      let ch := t.chan c
      ch.duty.natAbs ≤ ch.leff ∧ ch.leff ≤ ch.params.limit ∧
      (s.supply.state = .sag → ch.leff ≤ 800) ∧
      ch.nextC = (if ch.duty.natAbs < 4 then 0 else 2 * ch.duty.natAbs) ∧
      (0 < ch.duty → ch.nextDir = .forward) ∧ (ch.duty < 0 → ch.nextDir = .reverse) ∧
      (ch.mode = .coast ∨ ch.mode = .brake → ch.duty = 0) ∧ ch.pendingParams = none ∧
      (ch.params.ilim < current → ch.params.ilim < 4000 → ch.leff ≤ (s.chan c).leff ∧
        (s.supply.state ≠ .sag → (s.chan c).pendingParams = none → (s.chan c).leff ≤ (s.chan c).params.limit →
          ch.leff = if (s.chan c).leff ≤ min 100 ch.params.limit then (s.chan c).leff
            else max ((s.chan c).leff - 50) (min 100 ch.params.limit))) ∧
      t.supply = s.supply ∧ t.publish = s.publish ∧ t.inReset = false) ∧
  (∀ (c : Fin 4) (current : Nat) (s : State),
    s.inReset = false → (s.chan c).kind = .plain → (s.chan c).pendingParams = none → current ≤ (s.chan c).params.ilim →
    ((s.chan c).mode = .coast ∨ (s.chan c).mode = .brake ∨ (s.chan c).haltFlag = true ∨ (s.chan c).tripHolders ≠ 0 ∨
      s.supply.state = .brownout) →
    (s.source ⟨c.val, by omega⟩).condition = false → 1 ≤ (s.chan c).params.stallTime →
    let ch := s.chan c
    let ceil := if s.supply.state = .sag then min ch.params.limit 800 else ch.params.limit
    ∃ u : Channel, exec (.controlPeriodExpiry c current) s = .next (s.setChan c u) ∧
      u = { ch with
        speed := u.speed, history := u.history, settle := 0, integ := 0, leff := min ceil (ch.leff + 10), stall := 0,
        duty := 0, nextC := 0 } ∧
      u.speed = max (-32767) (min 32767 (wrapDiff ch.position (ch.history.get 0))) ∧
      (∀ i : Fin 7, u.history.get i.castSucc = ch.history.get i.succ) ∧ u.history.get 7 = ch.position) ∧
  (∀ (c : Fin 4) (current : Nat) (s0 : State), s0.inReset = false → (s0.chan c).pendingParams = none →
    let ch0 := s0.chan c
    let measured : State := s0.setChan c { ch0 with
      speed := max (-32767) (min 32767 (wrapDiff ch0.position (ch0.history.get 0))),
      history := shiftIn ch0.history ch0.position }
    let s : State := if ch0.kind = .encoded then watchUpdate (.motor c) measured else measured
    let ch := s.chan c
    let index : Byte := BitVec.ofNat 8 c.val
    let i := min 4000 current
    let ceil := if s.supply.state = .sag then min ch.params.limit 800 else ch.params.limit
    let leff := if ch.params.ilim < i then min ceil (min ch.leff (max (ch.leff - 50) (min 100 ceil)))
      else min ceil (ch.leff + 10)
    let n := if ch.params.ilim < i ∧ leff = min 100 ceil ∧ (ch.kind = .plain ∨ ch.speed.natAbs < 4)
      then min ch.params.stallTime (ch.stall + 1) else 0
    let out (base : State) (x : Channel) (u : Int) : State :=
      let t := tellCondition ⟨c.val, by omega⟩ (decide (n = ch.params.stallTime))
        (base.setChan c { x with leff := leff, stall := n })
      let d := if (t.chan c).mode = .coast ∨ (t.chan c).mode = .brake then 0 else max (-(leff : Int)) (min leff u)
      t.setChan c { t.chan c with
        duty := d, nextC := if d.natAbs < 4 then 0 else 2 * d.natAbs,
        nextDir := if 0 < d then .forward else if d < 0 then .reverse else (t.chan c).nextDir }
    let regulated (base : State) (x : Channel) : State :=
      let r := regulate (refStage x)
      out base { refStage x with integ := r.1 } r.2
    let moved (goal : Word) (x : Channel) : Channel :=
      advance (profileSpeed ch.params.acc ch.params.vmax (distance goal ch.tc ch.tf) ch.v) x
    (ch.mode = .coast ∨ ch.mode = .brake ∨ ch.haltFlag = true ∨ ch.tripHolders ≠ 0 ∨ s.supply.state = .brownout →
      exec (.controlPeriodExpiry c current) s0 = .next (out s { ch with settle := 0, integ := 0 } 0)) ∧
    (ch.haltFlag = false → ch.tripHolders = 0 → s.supply.state ≠ .brownout →
      (∀ d, ch.mode = .openDrive d → exec (.controlPeriodExpiry c current) s0 =
        .next (out s ch (openDuty ch.leff d (s.supply.window.toList.sum / 16)))) ∧
      (∀ v, ch.mode = .speed v → exec (.controlPeriodExpiry c current) s0 = .next (regulated s ch)) ∧
      (∀ g, ch.mode = .hold g → exec (.controlPeriodExpiry c current) s0 = .next (regulated s (moved g ch))) ∧
      (∀ g, ch.mode = .position g →
        let x := moved g ch
        let k := if x.tc = g ∧ x.tf = 0 ∧ x.v = 0 ∧ (wrapDiff g ch.position).natAbs ≤ ch.params.tolerance
          then min 20 (ch.settle + 1) else 0
        let y : Channel := { x with settle := k, moveDone := ch.moveDone || decide (k = 20) }
        exec (.controlPeriodExpiry c current) s0 = .next (regulated
          (if k = 20 ∧ ch.moveDone = false then raiseEvent .moveDone index ch.position (s.setChan c y) else s) y)) ∧
      (∀ r g, ch.mode = .follow r g →
        (∀ x, readSource r.source s = .value x → exec (.controlPeriodExpiry c current) s0 = .next (regulated s (moved
          (goalOf r x) { ch with mode := .follow r (goalOf r x), lapse := false }))) ∧
        (∀ cause, readSource r.source s = .lapse cause → exec (.controlPeriodExpiry c current) s0 = .next (regulated
          (if ch.lapse then s
          else raiseEvent .sourceStale index (BitVec.ofNat 32 cause) (s.setChan c { ch with lapse := true }))
          (moved g { ch with lapse := true })))))) ∧
  (∀ (c : Fin 4) (current : Nat) (k : Fin 8) (w : Watch) (set : BitVec 4) (s : State),
    let ch := s.chan c
    s.inReset = false → ch.pendingParams = none → ch.kind = .encoded → s.watch k = some w → w.state = .armed →
    (∀ j : Fin 8, j ≠ k → s.watch j = none) → w.subject = .motorPosition c → conditionHolds w ch.position.toInt = true →
    w.action = .tripBrake set ∨ w.action = .tripCoast set → set.getLsbD c.val = true →
    ∃ t, exec (.controlPeriodExpiry c current) s = .next t ∧
      t.watch k = some { w with state := .tripped, lastEval := true } ∧
      (t.chan c).mode.stopped = true ∧ (t.chan c).tripHolders = ch.tripHolders ||| BitVec.ofNat 8 (2 ^ k.val) ∧
      (t.chan c).duty = 0 ∧ (t.chan c).nextC = 0 ∧ (t.chan c).integ = 0 ∧
      (t.chan c).tc = ch.tc ∧ (t.chan c).tf = ch.tf ∧ (t.chan c).v = ch.v ∧ (t.chan c).ref = ch.ref) ∧
  (∀ (c : Fin 4) (current : Nat) (p : Params) (s : State), s.inReset = false → (s.chan c).pendingParams = some p →
    let ch := s.chan c
    exec (.controlPeriodExpiry c current) s = exec (.controlPeriodExpiry c current) (s.setChan c { ch with
      params := p, pendingParams := none, stall := min ch.stall p.stallTime, leff := min ch.leff p.limit,
      mode := match ch.mode with
        | .speed v => .speed (max (-(p.vmax : Int)) (min p.vmax v))
        | mode => mode,
      duty := if p.limit < ch.leff then max (-(p.limit : Int)) (min p.limit ch.duty) else ch.duty,
      nextC := if p.limit < ch.leff ∧ p.limit < ch.duty.natAbs then (if p.limit < 4 then 0 else 2 * p.limit)
        else ch.nextC })) ∧
  (∀ (c : Fin 4) (s : State),
    let k : Fin 8 := ⟨c.val, by omega⟩
    let f := s.source k
    tellCondition k f.condition s = s ∧
    (f.condition = false → f.state = .inactive → f.grace = 0 → f.reaction = .channelStop →
      tellCondition k true s = (raiseEvent .faultLatched (BitVec.ofNat 8 k.val) 2
        (s.setSource k { f with condition := true, state := .latched, timer := none })).setChan c { s.chan c with
          mode := match f.style with | .brake => .brake | .coast => .coast,
          integ := 0, duty := 0, nextC := 0, settle := 0, moveDone := false, lapse := false, haltFlag := true }) ∧
    (f.condition = true → f.state = .latched → tellCondition k false s = s.setSource k { f with condition := false })) ∧
  (∀ (c : Fin 4) (j : Fin 16) (p : Fin 4) (n : Nat) (e : ListenEntry) (s : State),
    (readSource (.localChan c) s = if (s.chan c).kind = .encoded then .value (s.chan c).position else .lapse 4) ∧
    (s.entry j = some e → readSource (.mirror j) s =
      match e.state with | .fresh => .value e.value | .stale => .lapse 1 | .never => .lapse 2) ∧
    readSource (.sensor p n) s = match (s.port p).reading.valid, (s.port p).reading.values[n]? with
      | true, some v => .value v
      | _, _ => .lapse 3)

/-- The profile: an opposing speed falls by A; otherwise the magnitude is m + A where it and its stopping bound fit the
distance within Vmax, else m where that fits, else m less A; above Vmax it falls by A toward Vmax; none exceeds the distance, whose
sign it takes, and none changes by more than A unless the distance cuts it (R80, R81). The target advances by exactly
v eighths, modulo the 32-bit counts, its fraction left in 0 to 7 (R82). In SPEED the reference moves toward the set speed by
at most A and reaches it without passing it (R84); in the position-controlled modes it is v and Kx times the lag of the
position behind the target over 128, within twice Vmax (R83). The regulator keeps the integrator within 256,000 and its output
within Leff; where the trial output would leave Leff in the error's own direction the integrator is kept, and the output is formed
from the integrator kept or taken (R85). The open drive scales the set duty by 7200 over the battery voltage, at least 3600, and
clamps it to Leff (R86). PeriodBoundsDuty states that a driving channel's control period is these stages. -/
def Obligations.MotionStagesBounded : Prop :=
  (∀ (a vmax : Nat) (d v : Int), 1 ≤ a →
    let w := profileSpeed a vmax d v
    ((v ≠ 0 ∧ (d = 0 ∨ (d < 0 ∧ 0 < v) ∨ (0 < d ∧ v < 0))) → w.natAbs = v.natAbs - a ∧ (w = 0 ∨ (0 < w ↔ 0 < v))) ∧
    (¬(v ≠ 0 ∧ (d = 0 ∨ (d < 0 ∧ 0 < v) ∨ (0 < d ∧ v < 0))) →
      w.natAbs ≤ d.natAbs ∧ (0 < w → 0 < d) ∧ (w < 0 → d < 0) ∧ w.natAbs ≤ max vmax (v.natAbs - a) ∧
      w.natAbs ≤ v.natAbs + a ∧ (v.natAbs - a ≤ w.natAbs ∨ w.natAbs = d.natAbs) ∧
      let m := v.natAbs
      let bound (x : Nat) : Nat := if x ≤ a then 0 else x * (x - a) / (2 * a)
      let speedsUp : Prop := m + a + bound (m + a) ≤ d.natAbs ∧ m + a ≤ vmax
      (vmax < m → w.natAbs = min d.natAbs (max (m - a) vmax)) ∧
      (m ≤ vmax → speedsUp → w.natAbs = m + a) ∧
      (m ≤ vmax → ¬ speedsUp → m + bound m ≤ d.natAbs → w.natAbs = m) ∧
      (m ≤ vmax → ¬ speedsUp → d.natAbs < m + bound m → w.natAbs = min d.natAbs (m - a)))) ∧
  (∀ (v : Int) (ch : Channel),
    let t := advance v ch
    t.tf < 8 ∧ t.v = v ∧ t = { ch with tc := t.tc, tf := t.tf, v := v } ∧
    ((t.tc - ch.tc).toInt - ((ch.tf : Int) + v - t.tf) / 8) % 4294967296 = 0 ∧ ((ch.tf : Int) + v - t.tf) % 8 = 0) ∧
  (∀ (a : Nat) (set r : Int) (ch : Channel), ch.mode = .speed set → ch.params.acc = a → ch.ref = r →
    let w := (refStage ch).ref
    refStage ch = { ch with ref := w } ∧
    ((set - r).natAbs ≤ a → w = set) ∧
    (¬ (set - r).natAbs ≤ a → (r < set → w = r + a ∧ w < set) ∧ (set < r → w = r - a ∧ set < w))) ∧
  (∀ (g : Word) (ch : Channel), ch.mode.goal = some g →
    let e := max (-1048576) (min 1048576 (8 * wrapDiff ch.tc ch.position + ch.tf))
    let b : Int := 2 * ch.params.vmax
    refStage ch = { ch with ref := max (-b) (min b (ch.v + Int.tdiv (ch.params.kx * e) 128)) }) ∧
  (∀ ch : Channel, ch.integ.natAbs ≤ 256000 →
    let e := max (-32767) (min 32767 (ch.ref - ch.speed))
    let trial := max (-256000) (min 256000 (ch.integ + ch.params.ki * e))
    let u := Int.tdiv (ch.params.kp * e + trial) 256
    (regulate ch).1.natAbs ≤ 256000 ∧ (regulate ch).2.natAbs ≤ ch.leff ∧
    ((ch.leff < u.natAbs ∧ ((0 < e ∧ 0 < u) ∨ (e < 0 ∧ u < 0))) → (regulate ch).1 = ch.integ ∧
      (regulate ch).2 = max (-(ch.leff : Int)) (min ch.leff (Int.tdiv (ch.params.kp * e + ch.integ) 256))) ∧
    (¬(ch.leff < u.natAbs ∧ ((0 < e ∧ 0 < u) ∨ (e < 0 ∧ u < 0))) → (regulate ch).1 = trial ∧
      (regulate ch).2 = max (-(ch.leff : Int)) (min ch.leff u))) ∧
  (∀ (leff : Nat) (dset : Int) (vbat : Nat),
    let q := Int.tdiv (dset * 7200) (if vbat < 3600 then 3600 else vbat)
    openDuty leff dset vbat = max (-(leff : Int)) (min leff q) ∧
    (vbat = 7200 → openDuty leff dset vbat = max (-(leff : Int)) (min leff dset)) ∧
    (0 ≤ dset → 0 ≤ openDuty leff dset vbat))

/-! ## Sensor ports -/

/-- A detect sample is placed in its band: one in the settled band clears the candidate, one in another counts toward 20,
and the twentieth in a row settles that band with nothing left of the old one; a ready port raises SENSOR_LOST with argument
3 (R97, R98). An analog sample, taken as at most 5000 mV: below 8 the window grows and the reading stays as it is; the
eighth raises SENSOR_READY with the passive type code of GENERIC, LIGHT or TOUCH and a mode count of 0; a full window gives its
mean as the reading, a TOUCH sensor 1 above 3500, 0 below 1500 and otherwise its last value, 0 for the first, and the watch unit
the update (R99, R100). That SENSOR_READY comes before the update is the model's choice (log entry 23), as is
that a sample outside ANALOG does nothing (log entry 8). -/
def Obligations.PortsDetectSensors : Prop :=
  (∀ (p : Fin 4) (mv : Nat) (s : State), s.inReset = false →
    let x := s.port p
    let b : Band := if 4500 < mv then .empty else if 3000 ≤ mv then .generic else if 1500 ≤ mv then .light
      else if 200 ≤ mv then .touch else .smart
    let n := if x.candidate = some b then x.debounce + 1 else 1
    (b = x.settled → exec (.detectSample p mv) s = .next (s.setPort p { x with candidate := none, debounce := 0 })) ∧
    (b ≠ x.settled → n < 20 →
      exec (.detectSample p mv) s = .next (s.setPort p { x with candidate := some b, debounce := n })) ∧
    (b ≠ x.settled → 20 ≤ n →
      let y : Port := { x with
        state := match b with | .empty => .empty | .smart => .syncing | _ => .analog,
        settled := b, candidate := none, debounce := 0, ready := false, window := [], measuring := none, run := none,
        fixedRate := none, descriptor := none, currentMode := none, switch := none,
        reading := { x.reading with valid := false, values := [] }, consecBad := 0, descTimer := none,
        silenceTimer := none, switchTimer := none, nudgeTimer := none, tx := [] }
      exec (.detectSample p mv) s = .next (
        if x.ready then (raiseEvent .sensorLost (BitVec.ofNat 8 (p.val + 1)) 3
          (s.setPort p { x with ready := false })).setPort p y
        else s.setPort p y))) ∧
  (∀ (p : Fin 4) (mv : Nat) (s : State),
    let x := s.port p
    let v := min 5000 mv
    (x.state ≠ .analog → exec (.analogSample p mv) s = .next s) ∧
    (x.state = .analog → x.window.length < 7 →
      exec (.analogSample p mv) s = .next (s.setPort p { x with window := x.window ++ [v] })) ∧
    (x.state = .analog → x.window.length = 7 →
      let mean := (x.window.sum + v) / 8
      let settles (arg value : Word) : Prop := exec (.analogSample p mv) s =
        .next (watchUpdate (.sensor p) (raiseEvent .sensorReady (BitVec.ofNat 8 (p.val + 1)) arg (s.setPort p { x with
          window := x.window ++ [v], ready := true, reading := { valid := true, mode := 0, values := [value], age := 0 } })))
      (x.settled = .generic → settles 256 (BitVec.ofNat 32 mean)) ∧
      (x.settled = .light → settles 512 (BitVec.ofNat 32 mean)) ∧
      (x.settled = .touch → settles 768 (if 3500 < mean then 1 else 0))) ∧
    (∀ (o : Nat) (w : List Nat), x.state = .analog → x.window = o :: w → w.length = 7 → ∃ r : Word,
      exec (.analogSample p mv) s = .next (watchUpdate (.sensor p) (s.setPort p { x with
        window := w ++ [v], reading := { valid := true, mode := 0, values := [r], age := 0 } })) ∧
      let mean := (w.sum + v) / 8
      (x.settled = .generic ∨ x.settled = .light → r = BitVec.ofNat 32 mean) ∧
      (x.settled = .touch → (3500 < mean → r = 1) ∧
        ∀ q l, x.reading.values = q :: l → (mean < 1500 → r = 0) ∧ (1500 ≤ mean → mean ≤ 3500 → r = q))))

/-- A port finding its rate: an edge starts a measurement, a time within 3 per cent of a rate makes or confirms a run, the
confirmed run fixes the rate and queues the acknowledge, any other time or the 5 ms limit ends the run (R101, R102). That an
edge during a measurement starts none is the model's choice (log entry 8); so is that the limit has come only once its ms are
counted down to 0 (log entry 7). -/
def Obligations.RateIsMeasuredTwice : Prop :=
  ∀ (p : Fin 4) (s : State), (s.port p).state = .syncing → (s.port p).fixedRate = none →
    let x := s.port p
    (x.measuring = none → exec (.firstFallingEdge p) s = .next (s.setPort p { x with measuring := some 5 })) ∧
    (∀ m, x.measuring = some m →
      exec (.firstFallingEdge p) s = .next s ∧
      exec (.rateMeasurementTimeout p) s =
        .next (if m = 0 then s.setPort p { x with measuring := none, run := none } else s) ∧
      ∀ ns : Nat,
        ((∀ r : SensorRate, ¬(97 * 8000000000 ≤ 100 * (ns * r.bps) ∧ 100 * (ns * r.bps) ≤ 103 * 8000000000)) →
          exec (.rateMeasurement p ns) s = .next (s.setPort p { x with measuring := none, run := none })) ∧
        ∀ r : SensorRate, (97 * 8000000000 ≤ 100 * (ns * r.bps) ∧ 100 * (ns * r.bps) ≤ 103 * 8000000000) →
          (x.run ≠ some r →
            exec (.rateMeasurement p ns) s = .next (s.setPort p { x with measuring := none, run := some r })) ∧
          (x.run = some r →
            exec (.rateMeasurement p ns) s = .next (s.setPort p { x with
              measuring := none, fixedRate := some r, tx := x.tx ++ [.acknowledge] })))

/-- A bad message, or a gap inside one, is counted, and the eighth in a row loses the sensor of a port past its description:
SYNCING with nothing held, SENSOR_LOST with argument 2 where it was ready (R103, R108); in DESCRIBING the eighth fails the
identification with argument 3, and a byte 0x55 for a header is passed over (R103, R105). A good DESCRIBE that is well formed is
stored as the descriptor, and the port enters SWITCHING toward mode 0 with a SELECT sent and its three timers started; one that
is ill formed fails the identification with argument 2 (R104 to R106, R108, R111). A good VALUES message, its values
sign-extended from S8, S16 or S32, writes the reading, restarts the silence timer and updates the watch unit: in STREAMING in the
current mode, in SWITCHING in the old mode, and in the new mode, where it completes the switch with MODE_SET, or with
SENSOR_READY for the identification switch; in another mode it only counts as good, and one of a mode or length the descriptor
does not have is bad (R103, R106, R107, R110). -/
def Obligations.SensorMessagesJudged : Prop :=
  (∀ (p : Fin 4) (m : SensorMsg) (s : State),
    let x := s.port p
    x.state = .switching ∨ x.state = .streaming →
    (m.stopLow = true ∨ m.check ≠ (m.header :: m.body).foldl (fun a b => a ^^^ b) 0xFF) →
    ∀ c ∈ [Instr.sensorMessageReceived p m, .sensorGapTimeout p],
      (x.consecBad < 7 → exec c s = .next (s.setPort p { x with
        totalBad := min 255 (x.totalBad + 1), consecBad := x.consecBad + 1 })) ∧
      (7 ≤ x.consecBad →
        let z : Port := { x with
          state := .syncing, ready := false, totalBad := min 255 (x.totalBad + 1), consecBad := 0, measuring := none,
          run := none, fixedRate := none, descriptor := none, currentMode := none, switch := none,
          reading := { x.reading with valid := false, values := [] }, descTimer := none, silenceTimer := none,
          switchTimer := none, nudgeTimer := none, tx := [] }
        ∃ t : State, exec c s = .next (t.setPort p z) ∧
          t = if x.ready then raiseEvent .sensorLost (BitVec.ofNat 8 (p.val + 1)) 2 (s.setPort p { x with
            totalBad := min 255 (x.totalBad + 1), consecBad := x.consecBad + 1, ready := false })
          else s.setPort p { x with totalBad := min 255 (x.totalBad + 1), consecBad := x.consecBad + 1 })) ∧
  (∀ (p : Fin 4) (m : SensorMsg) (s : State),
    let x := s.port p
    let b : Byte := BitVec.ofNat 8 (p.val + 1)
    let empty : Port := { x with
      state := .syncing, consecBad := 0, measuring := none, run := none, fixedRate := none, descriptor := none,
      currentMode := none, switch := none, reading := { x.reading with valid := false, values := [] }, descTimer := none,
      silenceTimer := none, switchTimer := none, nudgeTimer := none, tx := [] }
    let intact : Prop := m.stopLow = false ∧ m.check = (m.header :: m.body).foldl (fun a b => a ^^^ b) 0xFF
    let describes (code : Byte) (ms : List ModeDesc) : Prop :=
      1 ≤ ms.length ∧ ms.length ≤ 8 ∧ (∀ md ∈ ms, 1 ≤ md.count ∧ md.count ≤ 4 ∧ -4 ≤ md.scale ∧ md.scale ≤ 4) ∧
      m.body = code :: BitVec.ofNat 8 ms.length ::
        ms.flatMap fun md => [BitVec.ofNat 8 md.count, md.format.code, BitVec.ofInt 8 md.scale]
    x.state = .describing →
    (m.header = 0x55 → exec (.sensorMessageReceived p m) s = .next s) ∧
    (∀ c, (c = Instr.sensorMessageReceived p m ∧ m.header ≠ 0x55 ∧ ¬ intact) ∨ c = .sensorGapTimeout p →
      (x.consecBad < 7 → exec c s = .next (s.setPort p { x with
        totalBad := min 255 (x.totalBad + 1), consecBad := x.consecBad + 1 })) ∧
      (7 ≤ x.consecBad → exec c s = .next (raiseEvent .sensorIdFailed b 3 (s.setPort p { empty with
        totalBad := min 255 (x.totalBad + 1) })))) ∧
    (intact → m.header.toNat / 32 = 1 →
      (∀ code ms, describes code ms → exec (.sensorMessageReceived p m) s = .next (s.setPort p { x with
        consecBad := 0, state := .switching, descriptor := some { typeCode := code, modes := ms }, descTimer := none,
        currentMode := none, switch := some { oldMode := none, newMode := 0 }, switchTimer := some 250,
        silenceTimer := some 300, nudgeTimer := some 100, tx := x.tx ++ [.select 0] })) ∧
      ((∀ code ms, ¬ describes code ms) →
        exec (.sensorMessageReceived p m) s = .next (raiseEvent .sensorIdFailed b 2 (s.setPort p empty)))) ∧
    (intact → m.header.toNat / 32 ≠ 1 → m.header ≠ 0x55 →
      exec (.sensorMessageReceived p m) s = .next (s.setPort p { x with consecBad := 0 }))) ∧
  (∀ (p : Fin 4) (m : SensorMsg) (s : State) (d : Descriptor),
    let x := s.port p
    let b : Byte := BitVec.ofNat 8 (p.val + 1)
    let good : Port := { x with consecBad := 0 }
    let counted : Port := { x with totalBad := min 255 (x.totalBad + 1), consecBad := x.consecBad + 1 }
    let bytes (f : Format) (v : Word) : List Byte := match f with
      | .s8 => [v.extractLsb' 0 8]
      | .s16 => [v.extractLsb' 8 8, v.extractLsb' 0 8]
      | .s32 => wordBytes v
    let fits (f : Format) (v : Word) : Prop := match f with
      | .s8 => v = (v.extractLsb' 0 8).signExtend 32
      | .s16 => v = (v.extractLsb' 0 16).signExtend 32
      | .s32 => True
    x.state = .switching ∨ x.state = .streaming → x.descriptor = some d → m.stopLow = false →
    m.check = (m.header :: m.body).foldl (fun a b => a ^^^ b) 0xFF →
    (m.header.toNat / 32 ≠ 3 → exec (.sensorMessageReceived p m) s = .next (s.setPort p good)) ∧
    (∀ (mode : Byte) (rest : List Byte), m.header.toNat / 32 = 3 → m.body = mode :: rest → x.consecBad < 7 →
      d.modes[mode.toNat]? = none ∨
        (∃ md, d.modes[mode.toNat]? = some md ∧
          rest.length ≠ md.count * (match md.format with | .s8 => 1 | .s16 => 2 | .s32 => 4)) →
      exec (.sensorMessageReceived p m) s = .next (s.setPort p counted)) ∧
    ∀ (mode : Byte) (md : ModeDesc) (vs : List Word), m.header.toNat / 32 = 3 → d.modes[mode.toNat]? = some md →
      m.body = mode :: vs.flatMap (bytes md.format) → md.count = vs.length → (∀ v ∈ vs, fits md.format v) →
      let read : Port := { good with
        silenceTimer := some 300, reading := { valid := true, mode := mode.toNat, values := vs, age := 0 } }
      let done : Port := { read with
        state := .streaming, currentMode := some mode.toNat, switch := none, switchTimer := none }
      (x.state = .streaming → exec (.sensorMessageReceived p m) s =
        .next (if x.currentMode = some mode.toNat then watchUpdate (.sensor p) (s.setPort p read) else s.setPort p good)) ∧
      ∀ old new, x.state = .switching → x.switch = some { oldMode := old, newMode := new } →
        (new ≠ mode.toNat → exec (.sensorMessageReceived p m) s =
          .next (if old = some mode.toNat then watchUpdate (.sensor p) (s.setPort p read) else s.setPort p good)) ∧
        (new = mode.toNat → old.isSome = true → exec (.sensorMessageReceived p m) s =
          .next (watchUpdate (.sensor p) (raiseEvent .modeSet b (BitVec.ofNat 32 new) (s.setPort p done)))) ∧
        (new = mode.toNat → old = none → exec (.sensorMessageReceived p m) s =
          .next (watchUpdate (.sensor p) (raiseEvent .sensorReady b
            (BitVec.ofNat 32 (d.typeCode.toNat * 256 + d.modes.length)) (s.setPort p { done with ready := true })))))

/-- The acknowledge sent, the port enters DESCRIBING and starts the description timer; any other message sent leaves the
line to the next; a nudge timer that expires sends a NUDGE and restarts at 100 ms (R102, R104, R105). A description that
takes over 1000 ms, or an identification switch over 250 ms, fails the identification: SYNCING with nothing held and
SENSOR_ID_FAILED; a requested switch that times out goes back to STREAMING in the old mode with its SELECT sent and
MODE_FAILED raised; silence of 300 ms loses the sensor (R105, R108, R111). An expiry of a timer that is stopped or has ms left
changes nothing: that the ms are counted by idle steps and compared is the model's choice (log entry 7). What fell due first is
on the transmit line at the fixed rate, the acknowledge 0x3C or the bytes of a SELECT or NUDGE; else the line is idle (R102,
R104, R177). -/
def Obligations.PortLineAndTimers : Prop :=
  (∀ (p : Fin 4) (s : State),
    let x := s.port p
    (∀ rest, x.state = .syncing → x.tx = .acknowledge :: rest →
      exec (.acknowledgeSent p) s = .next (s.setPort p { x with
        state := .describing, tx := rest, descTimer := some 1000 })) ∧
    (∀ m rest, x.tx = m :: rest → m ≠ .acknowledge →
      exec (.sensorMessageSent p) s = .next (s.setPort p { x with tx := rest })) ∧
    (∀ r m rest, x.fixedRate = some r → x.tx = m :: rest →
      let bytes : List Byte := match m with
        | .acknowledge => [0x3C]
        | .select mode => [0xA1, BitVec.ofNat 8 mode, 0xFF ^^^ 0xA1 ^^^ BitVec.ofNat 8 mode]
        | .nudge => [0xC0, 0x3F]
      x.line = .sending r.bps (bytes.map fun v => { value := v, stopLow := false })) ∧
    (x.tx = [] → x.line = .idle) ∧
    (x.nudgeTimer = some 0 →
      exec (.nudgeTimerExpiry p) s = .next (s.setPort p { x with nudgeTimer := some 100, tx := x.tx ++ [.nudge] })) ∧
    (x.nudgeTimer ≠ some 0 → exec (.nudgeTimerExpiry p) s = .next s) ∧
    (x.descTimer ≠ some 0 → exec (.descriptionTimerExpiry p) s = .next s) ∧
    (x.switchTimer ≠ some 0 → exec (.switchTimerExpiry p) s = .next s) ∧
    (x.silenceTimer ≠ some 0 → exec (.silenceTimerExpiry p) s = .next s)) ∧
  (∀ (p : Fin 4) (s : State),
    let x := s.port p
    let b : Byte := BitVec.ofNat 8 (p.val + 1)
    let empty : Port := { x with
      state := .syncing, consecBad := 0, measuring := none, run := none, fixedRate := none, descriptor := none,
      currentMode := none, switch := none, reading := { x.reading with valid := false, values := [] }, descTimer := none,
      silenceTimer := none, switchTimer := none, nudgeTimer := none, tx := [] }
    (x.descTimer = some 0 →
      exec (.descriptionTimerExpiry p) s = .next (raiseEvent .sensorIdFailed b 1 (s.setPort p empty))) ∧
    (∀ new, x.switchTimer = some 0 → x.switch = some { oldMode := none, newMode := new } →
      exec (.switchTimerExpiry p) s = .next (raiseEvent .sensorIdFailed b 4 (s.setPort p empty))) ∧
    (∀ old new, x.switchTimer = some 0 → x.switch = some { oldMode := some old, newMode := new } →
      exec (.switchTimerExpiry p) s = .next (raiseEvent .modeFailed b (BitVec.ofNat 32 new) (s.setPort p { x with
        state := .streaming, currentMode := some old, switch := none, switchTimer := none, tx := x.tx ++ [.select old] }))) ∧
    (x.silenceTimer = some 0 → x.ready = false → exec (.silenceTimerExpiry p) s = .next (s.setPort p empty)) ∧
    (x.silenceTimer = some 0 → x.ready = true → exec (.silenceTimerExpiry p) s = .next
      ((raiseEvent .sensorLost b 1 (s.setPort p { x with ready := false })).setPort p { empty with ready := false })))

/-- SET_SENSOR_MODE: BAD_ARG for a port outside 1 to 4, NOT_READY outside SWITCHING and STREAMING, BUSY in SWITCHING; in
STREAMING a mode of the descriptor starts a switch with a SELECT sent and is answered ACCEPTED with its format (R109).
PORT_RESET puts the port in EMPTY with every record and count at its reset value but the reading's mode and age, raises
nothing, and answers the state it left (R114). -/
def Obligations.PortRequests : Prop :=
  (∀ (h : ReqCtx) (p : Fin 4) (mode : Byte) (s : State),
    let x := s.port p
    let i : Instr := .setSensorMode h (BitVec.ofNat 8 (p.val + 1)) mode
    (∀ q : Byte, q = 0 ∨ 4 < q.toNat → exec (.setSensorMode h q mode) s = .next (answer h .badArg [] s)) ∧
    (x.state ≠ .switching → x.state ≠ .streaming → exec i s = .next (answer h .notReady [] s)) ∧
    (x.state = .switching → exec i s = .next (answer h .busy [] s)) ∧
    (∀ d md old, x.state = .streaming → x.descriptor = some d → x.currentMode = some old →
      (d.modes[mode.toNat]? = none → exec i s = .next (answer h .badArg [] s)) ∧
      (d.modes[mode.toNat]? = some md → exec i s = .next (answer h .accepted
        [BitVec.ofNat 8 md.count, md.format.code, BitVec.ofInt 8 md.scale] (s.setPort p { x with
          state := .switching, switch := some { oldMode := some old, newMode := mode.toNat }, switchTimer := some 250,
          tx := x.tx ++ [.select mode.toNat] }))))) ∧
  (∀ (h : ReqCtx) (p : Fin 4) (s : State),
    exec (.portReset h (BitVec.ofNat 8 (p.val + 1))) s = .next (answer h .ok [(s.port p).state.code]
      (s.setPort p { Port.reset with
        reading := { valid := false, mode := (s.port p).reading.mode, values := [], age := (s.port p).reading.age } })) ∧
    ∀ q : Byte, q = 0 ∨ 4 < q.toNat → exec (.portReset h q) s = .next (answer h .badArg [] s))

/-! ## Watches -/

/-- A watch's condition and its release test, the bounds with hysteresis formed exactly: what releases never holds (R120).
The states of a watch at an evaluation: an ARMED watch whose condition holds is FIRED, or TRIPPED for a latching action,
before its action; a FIRED one rearms by the release test; a TRIPPED one stays; the last evaluation is recorded each time
(R121 to R123). The actions: NOTIFY does nothing more; STOP_SOUND stops the player; SEND_CUE takes the frame at once at a
standalone station and else offers it, WATCH_CUE_LOST where it is refused; TRIP_BRAKE and TRIP_COAST stop every channel of the
set and hold it; FAULT begins the WATCH condition unless another TRIPPED watch holds it (R122, R123). An update evaluates, in
index order and each whole before the next, the watches of its subject and no other: of a port's value of the watch's number, one
the reading does not hold being passed over; of a mirror; of a channel's position and speed; of Vbat (R116, R119). -/
def Obligations.WatchEvaluates : Prop :=
  (∀ (w : Watch) (v : Int),
    let lo := w.lo.toInt
    let hi := w.hi.toInt
    let h : Int := w.hysteresis.toNat
    (w.condition = .above → (conditionHolds w v = decide (hi < v) ∧ releaseTest w v = decide (v < hi - h))) ∧
    (w.condition = .below → (conditionHolds w v = decide (v < lo) ∧ releaseTest w v = decide (lo + h < v))) ∧
    (w.condition = .outside → (conditionHolds w v = decide (v < lo ∨ hi < v) ∧
      releaseTest w v = decide (lo + h < v ∧ v < hi - h))) ∧
    (w.condition = .inside → (conditionHolds w v = decide (lo ≤ v ∧ v ≤ hi) ∧
      releaseTest w v = decide (v < lo - h ∨ hi + h < v))) ∧
    (releaseTest w v = true → conditionHolds w v = false)) ∧
  (∀ (k : Fin 8) (w : Watch) (v : Word) (s : State),
    let b : Byte := BitVec.ofNat 8 k.val
    let holds := conditionHolds w v.toInt
    let st (x : WatchState) : State := s.setWatch k (some { w with state := x, lastEval := holds })
    (w.state = .armed → holds = false → evaluate k w v s = st .armed) ∧
    (w.state = .armed → holds = true → w.action = .notify →
      evaluate k w v s = raiseEvent .watchFired b v (st .fired)) ∧
    (w.state = .armed → holds = true → w.action = .stopSound →
      evaluate k w v s = (raiseEvent .watchFired b v (st .fired)).withSound
        (if s.sound.player = .stopped then s.sound
        else { s.sound with player := .stopped, current := none, count := 0, stopAtEnd := false, nextCompare := 250 })) ∧
    (∀ mask cue, w.state = .armed → holds = true → w.action = .sendCue mask cue →
      let t := raiseEvent .watchFired b v (st .fired)
      let o := offer (.cueWatch k) [mask, cue] t
      evaluate k w v s = if s.standalone then takeCueFrame [mask, cue] t
        else if o.2 then o.1 else raiseEvent .watchCueLost b (cue.setWidth 32) t) ∧
    (∀ (set : BitVec 4) (m : ChanMode), w.state = .armed → holds = true →
      (w.action = .tripBrake set ∧ m = .brake) ∨ (w.action = .tripCoast set ∧ m = .coast) →
      ∃ chans, evaluate k w v s = { raiseEvent .watchTripped b v (st .tripped) with chans := chans } ∧
        ∀ c : Fin 4, chans.get c = if set.getLsbD c.val then { s.chan c with
          mode := m, integ := 0, duty := 0, nextC := 0, settle := 0, moveDone := false, lapse := false,
          tripHolders := (s.chan c).tripHolders ||| BitVec.ofNat 8 (2 ^ k.val) } else s.chan c) ∧
    (w.state = .armed → holds = true → w.action = .fault →
      let t := raiseEvent .watchTripped b v (st .tripped)
      let f := s.source 7
      ((∃ (j : Fin 8) (x : Watch), j ≠ k ∧ s.watch j = some x ∧ x.state = .tripped ∧ x.action = .fault) →
        evaluate k w v s = t) ∧
      ((∀ (j : Fin 8) (x : Watch), j ≠ k → s.watch j = some x → ¬(x.state = .tripped ∧ x.action = .fault)) →
        (f.condition = true → evaluate k w v s = t) ∧
        (f.condition = false → f.state = .inactive → f.grace = 0 → f.reaction = .report →
          evaluate k w v s = raiseEvent .faultLatched 7 1
            (t.setSource 7 { f with condition := true, state := .latched, timer := none })))) ∧
    (w.state = .fired → holds = true → evaluate k w v s = st .fired) ∧
    (w.state = .fired → holds = false →
      evaluate k w v s = st (if releaseTest w v.toInt then .armed else .fired)) ∧
    (w.state = .tripped → evaluate k w v s = st .tripped) ∧
    ∃ x, (evaluate k w v s).watch k = some x ∧ x.lastEval = holds) ∧
  (∀ (u : Update) (s : State),
    let value (x : Subject) (t : State) : Option Word := match u, x with
      | .sensor p, .sensor q n => if q = p then (t.port p).reading.values[n]? else none
      | .mirror j, .mirror i => if i = j then (t.entry j).map fun e => e.value else none
      | .motor c, .motorPosition d => if d = c then some (t.chan c).position else none
      | .motor c, .motorSpeed d => if d = c then some (BitVec.ofInt 32 (t.chan c).speed) else none
      | .supply, .supply => some (BitVec.ofNat 32 (t.supply.window.toList.sum / 16))
      | _, _ => none
    let visit (t : State) (k : Fin 8) : State := match t.watch k with
      | some w => match value w.subject t with
        | some v => evaluate k w v t
        | none => t
      | none => t
    watchUpdate u s = [0, 1, 2, 3, 4, 5, 6, 7].foldl visit s)

/-- SET_WATCH arms a watch of any subject and action from its arguments, refuses an index, subject, condition, range or action
that is none, or a MIRROR of an unused entry, BAD_ARG, and a TRIPPED watch BUSY; the answer is the state it replaces (R117).
CLEAR_WATCH and REARM of one watch or of ALL: a DISARMED one is left; a cleared one is DISARMED and counted, a TRIPPED one
releasing its holds first; REARM of FIRED or TRIPPED watches is refused CONDITION_TRUE while the last evaluation of one named was
true, for ALL with their mask, and else arms each in index order, a TRIPPED one then releasing its holds (R118, R124). The holds
of a trip are its channels' trip holders, in the order A to D; of FAULT, the WATCH condition, ended by the last such watch (R123,
R124); that FAULT_EASED is raised where this end finds WATCH in GRACE is the model's choice (log entry 36). A channel whose last trip holder lets go enters HOLD at its position if it is ENCODED, free of halts and the station
RUNNING; otherwise, or with holders left, it keeps its mode (R74). -/
def Obligations.WatchRequests : Prop :=
  let released (k : Fin 8) (w : Watch) (s : State) : State := match w.action with
    | .tripBrake set => [0, 1, 2, 3].foldl (fun t c => if set.getLsbD c.val then releaseChannel k c t else t) s
    | .tripCoast set => [0, 1, 2, 3].foldl (fun t c => if set.getLsbD c.val then releaseChannel k c t else t) s
    | .fault =>
      if ∃ j : Fin 8, j ≠ k ∧ ∃ x ∈ (s.watch j).toList, x.state = .tripped ∧ x.action = .fault then s
      else tellCondition 7 false s
    | _ => s
  let clear (k : Fin 8) (s : State) : State := match s.watch k with
    | some w => (if w.state = .tripped then released k w s else s).setWatch k none
    | none => s
  let rearm (k : Fin 8) (s : State) : State := match s.watch k with
    | some w =>
      if w.state = .armed ∨ w.lastEval = true then s
      else
        let t := s.setWatch k (some { w with state := .armed })
        if w.state = .tripped then released k w t else t
    | none => s
  let acted (w : Option Watch) : Bool := match w with
    | some w => decide (w.state ≠ .armed)
    | none => false
  let blocked (w : Option Watch) : Bool := match w with
    | some w => decide (w.state ≠ .armed) && w.lastEval
    | none => false
  (∀ (h : ReqCtx) (k : Fin 8) (w : RawWatch) (s : State),
    let i : Instr := .setWatch h (BitVec.ofNat 8 k.val) w
    let names (x : Subject) : Prop := match x with
      | .sensor p n => w.subject = 1 ∧ w.which.toNat = p.val + 1 ∧ w.valueNumber.toNat = n ∧ n ≤ 3
      | .mirror j => w.subject = 2 ∧ w.which.toNat = j.val ∧ (s.entry j).isSome = true
      | .motorPosition c => w.subject = 3 ∧ w.which.toNat = c.val
      | .motorSpeed c => w.subject = 4 ∧ w.which.toNat = c.val
      | .supply => w.subject = 5
    let tests (c : Condition) : Prop := match c with
      | .above => w.condition = 0
      | .below => w.condition = 1
      | .outside => w.condition = 2
      | .inside => w.condition = 3
    let acts (a : WatchAction) : Prop := match a with
      | .notify => w.action = 0
      | .sendCue mask cue => w.action = 1 ∧ w.mask = mask ∧ w.cue = cue ∧ 1 ≤ cue.toNat ∧ cue.toNat ≤ 15
      | .tripBrake set => w.action = 2 ∧ set = w.mask.extractLsb' 0 4 ∧ set ≠ 0
      | .tripCoast set => w.action = 3 ∧ set = w.mask.extractLsb' 0 4 ∧ set ≠ 0
      | .stopSound => w.action = 4
      | .fault => w.action = 5
    ((∀ x, ¬ names x) ∨ (∀ c, ¬ tests c) ∨ w.hi.toInt < w.lo.toInt ∨ (∀ a, ¬ acts a) →
      exec i s = .next (answer h .badArg [] s)) ∧
    (∀ b : Byte, 7 < b.toNat → exec (.setWatch h b w) s = .next (answer h .badArg [] s)) ∧
    (∀ x c a, names x → tests c → acts a → w.lo.toInt ≤ w.hi.toInt →
      ((∃ y ∈ (s.watch k).toList, y.state = .tripped) → exec i s = .next (answer h .busy [] s)) ∧
      ((∀ y ∈ (s.watch k).toList, y.state ≠ .tripped) → exec i s = .next (answer h .ok
        [match s.watch k with | none => 0 | some y => if y.state = .armed then 1 else 2]
        (s.setWatch k (some { state := .armed, subject := x, condition := c, lo := w.lo, hi := w.hi,
                              hysteresis := w.hysteresis, action := a, lastEval := false })))))) ∧
  (∀ (h : ReqCtx) (k : Fin 8) (s : State),
    let b : Byte := BitVec.ofNat 8 k.val
    exec (.clearWatch h b) s = .next (answer h .ok [if (s.watch k).isSome then 1 else 0] (clear k s)) ∧
    (blocked (s.watch k) = true → exec (.rearm h b) s = .next (answer h .conditionTrue [] s)) ∧
    (blocked (s.watch k) = false →
      exec (.rearm h b) s = .next (answer h .ok [if acted (s.watch k) then 1 else 0] (rearm k s))) ∧
    ∀ i : Byte, 7 < i.toNat → i ≠ 0xFF → exec (.clearWatch h i) s = .next (answer h .badArg [] s) ∧
      exec (.rearm h i) s = .next (answer h .badArg [] s)) ∧
  (∀ (h : ReqCtx) (s : State),
    let all : List (Fin 8) := [0, 1, 2, 3, 4, 5, 6, 7]
    exec (.clearWatch h 0xFF) s = .next (answer h .ok [BitVec.ofNat 8 (all.countP fun k => (s.watch k).isSome)]
      (all.foldl (fun t k => clear k t) s)) ∧
    ((∃ k, blocked (s.watch k) = true) → ∃ m : Byte,
      exec (.rearm h 0xFF) s = .next (answer h .conditionTrue [m] s) ∧ ∀ k : Fin 8, m.getLsbD k.val = blocked (s.watch k)) ∧
    ((∀ k, blocked (s.watch k) = false) → exec (.rearm h 0xFF) s =
      .next (answer h .ok [BitVec.ofNat 8 (all.countP fun k => acted (s.watch k))] (all.foldl (fun t k => rearm k t) s)))) ∧
  (∀ (k : Fin 8) (c : Fin 4) (s : State),
    let ch := s.chan c
    let bit : BitVec 8 := BitVec.ofNat 8 (2 ^ k.val)
    (ch.tripHolders = bit → ch.kind = .encoded → ch.haltFlag = false → s.fault.halted = false →
      ch.mode = .coast ∨ ch.mode = .brake →
      releaseChannel k c s = s.setChan c { ch with
        tripHolders := 0, mode := .hold ch.position, tc := ch.position, tf := 0,
        v := max (-(ch.params.vmax : Int)) (min ch.params.vmax ch.speed), settle := 0, moveDone := false, lapse := false }) ∧
    (ch.tripHolders = bit → ch.kind = .plain ∨ ch.haltFlag = true ∨ s.fault.halted = true →
      releaseChannel k c s = s.setChan c { ch with tripHolders := 0 }) ∧
    (ch.tripHolders &&& ~~~bit ≠ 0 →
      releaseChannel k c s = s.setChan c { ch with tripHolders := ch.tripHolders &&& ~~~bit }))

/-! ## Sound -/

/-- A sample of PLAYING forms the tone about 250 and advances the phase by the frequency's increment; a STOPPED player
writes silence; a note whose last sample this was enters its gap, and a gap with samples left counts down in silence (R131,
R135, R136). The end of a gap: at the stop-at-end mark or with nothing queued the player stops with SOUND_DONE and the queue
count, else it takes the head note, and SOUND_LOW is raised once where the queue has come down to the mark (R130, R131,
R134). The speaker's running compare is the one last written, or silence in BROWNOUT; during a reset neither the player nor
the speaker moves, and the speaker driver is off (R137, R139, R141). A note with gap 0 ends its gap at its last sample (R131).
That SAMPLE_CLOCK and the wrap change nothing in a reset, where neither arises, is the model's choice (log entry 10). -/
def Obligations.PlayerFollowsSampleClock : Prop :=
  (∀ s : State, s.inReset = false →
    let x := s.sound
    (x.player = .stopped → exec .sampleClock s = .next (s.withSound { x with nextCompare := 250 })) ∧
    (x.player = .gapping → 2 ≤ x.count →
      exec .sampleClock s = .next (s.withSound { x with nextCompare := 250, count := x.count - 1 })) ∧
    ∀ n, x.player = .playing → x.current = some n → noteSafe n → x.master ≤ 15 →
      let amp : Nat := if s.supply.state = .sag then 16 * n.volume * x.master / 15 / 2 else 16 * n.volume * x.master / 15
      let played (c : Nat) : Sound := { x with
        nextCompare := c, phase := x.phase + BitVec.ofNat 24 ((2 * (n.frequency * 16777216) + 16000) / 32000),
        count := x.count - 1 }
      ∃ c : Nat, 250 - amp ≤ c ∧ c ≤ 250 + amp ∧
        (n.frequency = 0 → c = 250) ∧
        (n.frequency ≠ 0 → n.waveform = .square → c = if x.phase.toNat < 8388608 then 250 + amp else 250 - amp) ∧
        (n.frequency ≠ 0 → n.waveform = .triangle → c =
          if x.phase.toNat < 8388608 then 250 - amp + 2 * amp * x.phase.toNat / 8388608
          else 250 + amp - 2 * amp * (x.phase.toNat - 8388608) / 8388608) ∧
        (2 ≤ x.count → exec .sampleClock s = .next (s.withSound (played c))) ∧
        (x.count = 1 → 1 ≤ n.gap →
          exec .sampleClock s = .next (s.withSound { played c with player := .gapping, count := 16 * n.gap })) ∧
        (x.count = 1 → n.gap = 0 → x.stopAtEnd = true ∨ x.queue = [] → exec .sampleClock s =
          .next (raiseEvent .soundDone 0 (BitVec.ofNat 32 x.queue.length) (s.withSound { played c with
            player := .stopped, current := none, count := 0, stopAtEnd := false }))) ∧
        (∀ m rest, x.count = 1 → n.gap = 0 → x.stopAtEnd = false → x.queue = m :: rest →
          x.mark < rest.length ∨ x.arm = false → exec .sampleClock s = .next (s.withSound { played c with
            queue := rest, player := .playing, current := some m, count := 16 * m.duration, phase := 0 }))) ∧
  (∀ s : State, s.inReset = false → s.sound.player = .gapping → s.sound.count = 1 →
    let x : Sound := { s.sound with nextCompare := 250, count := 0 }
    let stopped : Sound := { x with player := .stopped, current := none, stopAtEnd := false }
    (x.stopAtEnd = true ∨ x.queue = [] → exec .sampleClock s =
      .next (raiseEvent .soundDone 0 (BitVec.ofNat 32 x.queue.length) (s.withSound stopped))) ∧
    (∀ n rest, x.stopAtEnd = false → x.queue = n :: rest →
      let taken : Sound := { x with queue := rest, player := .playing, current := some n, count := 16 * n.duration, phase := 0 }
      (x.mark < rest.length ∨ x.arm = false → exec .sampleClock s = .next (s.withSound taken)) ∧
      (rest.length ≤ x.mark → x.arm = true → exec .sampleClock s =
        .next (raiseEvent .soundLow 0 (BitVec.ofNat 32 rest.length) (s.withSound { taken with arm := false }))))) ∧
  (∀ s : State,
    (s.inReset = true → exec .speakerPwmWrap s = .next s ∧ exec .sampleClock s = .next s ∧ s.speaker = .off) ∧
    (s.inReset = false → s.speaker = .pulse s.sound.runCompare ∧
      exec .speakerPwmWrap s = .next (s.withSound { s.sound with
        runCompare := if s.supply.state = .brownout then 250 else s.sound.nextCompare })))

/-- The sound requests while the station is RUNNING, cue 0: START_SOUND takes the head note or raises SOUND_DONE on an empty
queue, STOP_SOUND with NOW stops at once, with AT_END marks the stop, CLEAR_SOUND also discards the queue (R130, R132,
R133). A take that leaves the queue at the mark or below with the arm set raises SOUND_LOW and clears the arm (R134). While the
station is HALTED the sound requests that would sound or stop are refused FAULTED (R127, R130, R132, R133, R140). QUEUE_NOTES is
refused BAD_ARG for a start form or cue number that is none and for a waveform that is none, and TABLE_FULL where the cue table
is full and holds no entry of the cue for SOUND (R127). It appends the notes that fit below 32, each brought within its ranges,
sets the low-water arm above the mark, and answers how many it took, LIMITED where a note was brought within range or not taken
and else OK; with NOW it then applies the START_SOUND action, with LATER it starts nothing, with CUE it stages START_SOUND, its
place and the table's count in the answer (R44, R127, R128, R134). SET_VOLUME stores a master of at most 15 and a mark of at most
31, LIMITED where it brought one down, and sets the low-water arm where the queue stands above the new mark, in every station
state (R134, R138). -/
def Obligations.SoundRequestsAct : Prop :=
  (∀ (h : ReqCtx) (keep : Bool) (s : State), s.fault.halted = false →
    let x := s.sound
    let silent : Sound := { x with
      player := .stopped, current := none, count := 0, stopAtEnd := false, nextCompare := 250 }
    (x.player = .stopped → x.queue = [] →
      exec (.startSound h 0 keep) s = .next (answer h .ok [0, 0] (raiseEvent .soundDone 0 0 s))) ∧
    (∀ n rest, x.player = .stopped → x.queue = n :: rest → x.mark < rest.length →
      exec (.startSound h 0 keep) s = .next (answer h .ok [1, BitVec.ofNat 8 rest.length] (s.withSound { x with
        queue := rest, player := .playing, current := some n, count := 16 * n.duration, phase := 0 }))) ∧
    (∀ n rest, x.player = .stopped → x.queue = n :: rest → rest.length ≤ x.mark →
      let y : Sound := { x with
        queue := rest, player := .playing, current := some n, count := 16 * n.duration, phase := 0, arm := false }
      exec (.startSound h 0 keep) s = .next (answer h .ok [1, BitVec.ofNat 8 rest.length] (if x.arm
        then raiseEvent .soundLow 0 (BitVec.ofNat 32 rest.length) (s.withSound y) else s.withSound y))) ∧
    (x.player ≠ .stopped → exec (.startSound h 0 keep) s =
      .next (answer h .ok [x.player.code, BitVec.ofNat 8 x.queue.length] s)) ∧
    exec (.stopSound h 0 0 keep) s =
      .next (answer h .ok [x.player.code] (s.withSound (if x.player = .stopped then x else silent))) ∧
    exec (.stopSound h 1 0 keep) s = .next (answer h .ok [x.player.code]
      (s.withSound (if x.player = .stopped then x else { x with stopAtEnd := true }))) ∧
    exec (.clearSound h) s = .next (answer h .ok [BitVec.ofNat 8 x.queue.length]
      (s.withSound { (if x.player = .stopped then x else silent) with queue := [] }))) ∧
  (∀ (h : ReqCtx) (keep : Bool) (st : RawStart) (ns : List RawNote) (s : State), s.fault.halted = true →
    exec (.queueNotes h st ns) s = .next (answer h .faulted [] s) ∧
    exec (.startSound h 0 keep) s = .next (answer h .faulted [] s) ∧
    exec (.stopSound h 0 0 keep) s = .next (answer h .faulted [] s) ∧
    exec (.stopSound h 1 0 keep) s = .next (answer h .faulted [] s) ∧
    exec (.clearSound h) s = .next (answer h .faulted [] s)) ∧
  (∀ (h : ReqCtx) (keep : Bool) (cue : BitVec 5) (ns : List RawNote) (s : State), s.fault.halted = false →
    let queue (form : BitVec 2) : Instr := .queueNotes h { form := form, keep := keep, cue := cue } ns
    let noCue : Prop := cue.toNat = 0 ∨ 15 < cue.toNat
    let same (y : CueEntry) : Prop := y.cue = cue.toNat ∧ y.action.target = CueAction.startSound.target
    (exec (queue 3) s = .next (answer h .badArg [] s)) ∧
    (noCue → exec (queue 2) s = .next (answer h .badArg [] s)) ∧
    (∀ form, (∃ n ∈ ns, 1 < n.waveform.toNat) → exec (queue form) s = .next (answer h .badArg [] s)) ∧
    ((∀ n ∈ ns, n.waveform.toNat ≤ 1) → ¬ noCue → 16 ≤ s.cue.table.length → (∀ y ∈ s.cue.table, ¬ same y) →
      exec (queue 2) s = .next (answer h .tableFull [] s)) ∧
    ((∀ n ∈ ns, n.waveform.toNat ≤ 1) → s.sound.queue.length ≤ 32 →
      let note (n : RawNote) : Note :=
        { frequency := if n.frequency = 0 then 0 else max 40 (min 8000 n.frequency.toNat),
          duration := max 1 (min 10000 n.duration.toNat), volume := min 15 n.volume.toNat,
          waveform := if n.waveform = 0 then .square else .triangle, gap := n.gap.toNat }
      let brought (n : RawNote) : Bool := decide ((n.frequency ≠ 0 ∧ (n.frequency.toNat < 40 ∨ 8000 < n.frequency.toNat)) ∨
        n.duration = 0 ∨ 10000 < n.duration.toNat ∨ 15 < n.volume.toNat)
      let taken := (ns.map note).take (32 - s.sound.queue.length)
      let q := s.sound.queue ++ taken
      let t : State := s.withSound { s.sound with queue := q, arm := s.sound.arm || decide (s.sound.mark < q.length) }
      let data : List Byte := [BitVec.ofNat 8 taken.length, BitVec.ofNat 8 q.length]
      let code : Result := if ns.any brought = true ∨ taken.length < ns.length then .limited else .ok
      let e : CueEntry := { cue := cue.toNat, action := .startSound, keep := keep }
      let table := s.cue.table
      exec (queue 1) s = .next (answer h code data t) ∧
      exec (queue 0) s = .next (answer h code data (startAction t)) ∧
      (¬ noCue → (∀ y ∈ table, ¬ same y) → table.length < 16 → exec (queue 2) s = .next (answer h code
        (data ++ [BitVec.ofNat 8 (table.length + 1), BitVec.ofNat 8 (table.length + 1)]) (t.withTable (table ++ [e])))) ∧
      (∀ pre post y, ¬ noCue → table = pre ++ y :: post → same y → (∀ z ∈ pre, ¬ same z) → exec (queue 2) s = .next (answer h
        code (data ++ [BitVec.ofNat 8 (pre.length + 1), BitVec.ofNat 8 table.length]) (t.withTable (pre ++ e :: post)))))) ∧
  (∀ s : State,
    let x := s.sound
    (x.player ≠ .stopped → startAction s = s) ∧
    (x.player = .stopped → x.queue = [] → startAction s = raiseEvent .soundDone 0 0 s) ∧
    (∀ n rest, x.player = .stopped → x.queue = n :: rest →
      let y : Sound := { x with
        queue := rest, player := .playing, current := some n, count := 16 * n.duration, phase := 0 }
      startAction s = if rest.length ≤ x.mark ∧ x.arm = true
        then raiseEvent .soundLow 0 (BitVec.ofNat 32 rest.length) (s.withSound { y with arm := false })
        else s.withSound y)) ∧
  (∀ (h : ReqCtx) (master mark : Byte) (s : State),
    let m := min 15 master.toNat
    let k := min 31 mark.toNat
    exec (.setVolume h master mark) s =
      .next (answer h (if master.toNat ≤ 15 ∧ mark.toNat ≤ 31 then .ok else .limited) [BitVec.ofNat 8 m, BitVec.ofNat 8 k]
        (s.withSound { s.sound with
          master := m, mark := k, arm := s.sound.arm || decide (k < s.sound.queue.length) })))

/-! ## The supply monitor and the fault unit -/

/-- A battery sample with no watch and the SUPPLY_LOW condition as it was: the window takes it in place of the oldest, and the
supply state follows Vbat by the thresholds of the state it is in, the neighbours told before the event: SAG caps every Leff,
BROWNOUT stops the player, and its end puts every channel in COAST (R142 to R144). Below 5200 SUPPLY_LOW begins and from 5400
it ends; a watch of the SUPPLY is evaluated last (R142, R145, R147). A temperature reading is kept; above 125 OVERHEAT begins,
below 110 it ends, and between them nothing changes; a condition that begins latches at once where the grace time is 0, or
counts it; one that ends in GRACE eases, and a LATCHED source stays LATCHED (R145, R147). -/
def Obligations.SupplyFollowsSamples : Prop :=
  (∀ (mv : Nat) (s : State), s.inReset = false → (∀ k : Fin 8, s.watch k = none) →
    let w := shiftIn s.supply.window mv
    let v := w.toList.sum / 16
    let t : State := { s with supply := { s.supply with window := w } }
    ((s.source 5).condition = false ∧ 5200 ≤ v) ∨ ((s.source 5).condition = true ∧ v < 5400) →
    (s.supply.state = .normal → 5800 ≤ v → exec (.supplySample mv) s = .next t) ∧
    (s.supply.state = .sag → 4500 ≤ v → v ≤ 6200 → exec (.supplySample mv) s = .next t) ∧
    (s.supply.state = .brownout → v < 5000 → exec (.supplySample mv) s = .next t) ∧
    (s.supply.state ≠ .brownout → v < 4500 → exec (.supplySample mv) s =
      .next (raiseEvent .supplySag 2 (BitVec.ofNat 32 v) { t.withSupply .brownout with sound := { s.sound with
        player := .stopped, current := none, count := 0, stopAtEnd := false, nextCompare := 250 } })) ∧
    (s.supply.state = .sag → 6200 < v →
      exec (.supplySample mv) s = .next (raiseEvent .supplyNormal 0 (BitVec.ofNat 32 v) (t.withSupply .normal))) ∧
    (s.supply.state = .normal → 4500 ≤ v → v < 5800 → ∃ chans,
      exec (.supplySample mv) s =
        .next (raiseEvent .supplySag 1 (BitVec.ofNat 32 v) { t.withSupply .sag with chans := chans }) ∧
      ∀ c : Fin 4, let ch := s.chan c
        let cap := min 800 ch.params.limit
        chans.get c = if ch.leff ≤ cap then ch else { ch with
          leff := cap, duty := max (-(cap : Int)) (min cap ch.duty),
          nextC := if cap < ch.duty.natAbs then (if cap < 4 then 0 else 2 * cap) else ch.nextC }) ∧
    (s.supply.state = .brownout → 5000 ≤ v → ∃ chans,
      let quiet : Sound := if s.sound.player = .stopped then s.sound else { s.sound with
        player := .stopped, current := none, count := 0, stopAtEnd := false, nextCompare := 250 }
      exec (.supplySample mv) s = .next (if 6200 < v
        then raiseEvent .supplyNormal 0 (BitVec.ofNat 32 v)
          (raiseEvent .brownoutEnd 0 (BitVec.ofNat 32 v) { t.withSupply .normal with chans := chans, sound := quiet })
        else raiseEvent .brownoutEnd 1 (BitVec.ofNat 32 v) { t.withSupply .sag with chans := chans, sound := quiet }) ∧
      ∀ c : Fin 4, chans.get c = { s.chan c with
        mode := .coast, integ := 0, duty := 0, nextC := 0, settle := 0, moveDone := false, lapse := false,
        leff := if 6200 < v then (s.chan c).leff else min (s.chan c).leff (min 800 (s.chan c).params.limit) })) ∧
  (∀ (mv : Nat) (s : State), s.inReset = false → s.supply.state = .sag →
    let w := shiftIn s.supply.window mv
    let v := w.toList.sum / 16
    let t : State := { s with supply := { s.supply with window := w } }
    let f := s.source 5
    4500 ≤ v → v ≤ 6200 →
    ((∀ k : Fin 8, s.watch k = none) → f.condition = false → v < 5200 → f.reaction ≠ .none →
      (f.state = .inactive → 0 < f.grace → exec (.supplySample mv) s =
        .next (raiseEvent .faultGrace 5 (BitVec.ofNat 32 f.grace)
          (t.setSource 5 { f with condition := true, state := .grace, timer := some 0 }))) ∧
      (f.state ≠ .inactive → exec (.supplySample mv) s = .next (t.setSource 5 { f with condition := true }))) ∧
    ((∀ k : Fin 8, s.watch k = none) → f.condition = true → 5400 ≤ v → f.reaction ≠ .none → exec (.supplySample mv) s =
      .next (if f.state = .grace
        then raiseEvent .faultEased 5 0 (t.setSource 5 { f with condition := false, state := .inactive, timer := none })
        else t.setSource 5 { f with condition := false })) ∧
    ∀ (k : Fin 8) (x : Watch), s.watch k = some x → x.subject = .supply → (∀ j, j ≠ k → s.watch j = none) →
      (f.condition = false ∧ 5200 ≤ v) ∨ (f.condition = true ∧ v < 5400) →
      exec (.supplySample mv) s = .next (evaluate k x (BitVec.ofNat 32 v) t)) ∧
  (∀ (deg : Int) (s : State), s.inReset = false →
    let f := s.source 4
    let t : State := { s with supply := { s.supply with temperature := deg } }
    (f.condition = false → deg ≤ 125 → exec (.temperatureReading deg) s = .next t) ∧
    (f.condition = true → 110 ≤ deg → exec (.temperatureReading deg) s = .next t) ∧
    (f.condition = true → deg < 110 → f.reaction ≠ .none → exec (.temperatureReading deg) s =
      .next (if f.state = .grace
        then raiseEvent .faultEased 4 0 (t.setSource 4 { f with condition := false, state := .inactive, timer := none })
        else t.setSource 4 { f with condition := false })) ∧
    (f.condition = false → 125 < deg → f.state = .inactive → f.grace = 0 → f.reaction = .report →
      exec (.temperatureReading deg) s = .next (raiseEvent .faultLatched 4 1
        (t.setSource 4 { f with condition := true, state := .latched, timer := none }))) ∧
    (f.condition = false → 125 < deg → f.state = .inactive → 0 < f.grace → f.reaction ≠ .none →
      exec (.temperatureReading deg) s = .next (raiseEvent .faultGrace 4 (BitVec.ofNat 32 f.grace)
        (t.setSource 4 { f with condition := true, state := .grace, timer := some 0 }))))

/-- A source that has spent its grace time latches: FAULT_LATCHED with the reaction, then for a STALL source with CHANNEL_STOP
its channel alone is halted in the source's style; LOCAL_HALT halts the station, every channel in the style, the player stopped
and emptied; GROUP_HALT then offers a HALT frame of the source's groups with the source code as its cause (R71, R147 to R150).
CONFIG_FAULT stores a source's settings, the grace time brought to at most 2000 ms, and a source in GRACE that has spent the new
grace time latches at once; code 9 sets the REMOTE style, code 8 and above 9 are refused, as is CHANNEL_STOP for a source that is
no STALL source (R146). SET_KEEPALIVE brings a period other than 0 to 100 to 5000 and starts the timer or stops it; a request
taken restarts a running period; the timer's expiry stops it and begins LINK_SILENT, which with LOCAL_HALT halts the station at
once, and the next request taken ends it (R147, R154). The bytes of the CONFIG_FAULT answer are the model's reading of R172 (log
entry 13); that an expiry is compared with the ms counted by idle steps, and changes nothing before, is its choice (log entry
7). -/
def Obligations.FaultSourcesRun : Prop :=
  let stopped (st : Style) (ch : Channel) : Channel := { ch with
    mode := match st with | .brake => .brake | .coast => .coast,
    integ := 0, duty := 0, nextC := 0, settle := 0, moveDone := false, lapse := false, haltFlag := true }
  let halt (st : Style) (u : State) : State := { u with
    fault := { u.fault with halted := true }
    chans := Vector.ofFn fun c : Fin 4 => stopped st (u.chan c)
    sound := { u.sound with
      player := .stopped, current := none, count := 0, stopAtEnd := false, queue := [], nextCompare := 250 } }
  (∀ (k : Fin 8) (s : State),
    let f := s.source k
    let t := s.setSource k { f with state := .latched, timer := none }
    (f.state ≠ .grace ∨ f.timer = none → exec (.graceTimerExpiry k) s = .next s) ∧
    ∀ spent, f.state = .grace → f.timer = some spent →
      (spent < f.grace → exec (.graceTimerExpiry k) s = .next s) ∧
      (f.grace ≤ spent →
        (f.reaction = .none → exec (.graceTimerExpiry k) s = .next t) ∧
        (f.reaction = .report →
          exec (.graceTimerExpiry k) s = .next (raiseEvent .faultLatched (BitVec.ofNat 8 k.val) 1 t)) ∧
        (∀ c : Fin 4, c.val = k.val → f.reaction = .channelStop →
          exec (.graceTimerExpiry k) s =
            .next ((raiseEvent .faultLatched (BitVec.ofNat 8 k.val) 2 t).setChan c (stopped f.style (s.chan c)))) ∧
        (f.reaction = .localHalt → exec (.graceTimerExpiry k) s =
          .next (halt f.style (raiseEvent .faultLatched (BitVec.ofNat 8 k.val) 3 t))) ∧
        (f.reaction = .groupHalt → exec (.graceTimerExpiry k) s =
          .next (offer .halt [match f.groups with | .membership => s.cue.membership | .mask m => m, BitVec.ofNat 8 k.val]
            (halt f.style (raiseEvent .faultLatched (BitVec.ofNat 8 k.val) 4 t))).1))) ∧
  (∀ (h : ReqCtx) (k : Fin 8) (grace : Half) (mask : Byte) (s : State),
    let b : Byte := BitVec.ofNat 8 k.val
    let f := s.source k
    let g := min 2000 grace.toNat
    (f.state ≠ .grace → exec (.configFault h b 3 grace 1 1 mask) s =
      .next (answer h (if grace.toNat ≤ 2000 then .ok else .limited)
        [3, BitVec.ofNat 8 (g / 256), BitVec.ofNat 8 g, 1, 1, mask]
        (s.setSource k { f with reaction := .localHalt, grace := g, style := .coast, groups := .mask mask }))) ∧
    (∀ spent, f.state = .grace → f.timer = some spent →
      let kept : FaultSource := { f with reaction := .report, grace := g, style := .coast, groups := .mask mask }
      exec (.configFault h b 1 grace 1 1 mask) s =
        .next (answer h (if grace.toNat ≤ 2000 then .ok else .limited)
          [1, BitVec.ofNat 8 (g / 256), BitVec.ofNat 8 g, 1, 1, mask]
          (if g ≤ spent then raiseEvent .faultLatched b 1 (s.setSource k { kept with state := .latched, timer := none })
          else s.setSource k kept))) ∧
    (4 ≤ k.val → exec (.configFault h b 2 grace 1 1 mask) s = .next (answer h .badArg [] s)) ∧
    exec (.configFault h 9 0 grace 1 0 mask) s =
      .next (answer h .ok [1] { s with fault := { s.fault with remoteStyle := .coast } }) ∧
    (∀ c : Byte, c = 8 ∨ 9 < c.toNat → exec (.configFault h c 3 grace 1 1 mask) s = .next (answer h .badArg [] s))) ∧
  (∀ (h : ReqCtx) (p : Half) (s : State),
    let q := if p = 0 then 0 else max 100 (min 5000 p.toNat)
    exec (.setKeepalive h p) s = .next (answer h (if q = p.toNat then .ok else .limited)
      [BitVec.ofNat 8 (q / 256), BitVec.ofNat 8 q]
      { s with fault := { s.fault with keepPeriod := q, keepTimer := if q = 0 then none else some q } }) ∧
    (s.fault.keepTimer ≠ some 0 → exec .keepaliveTimerExpiry s = .next s) ∧
    (s.fault.keepTimer = some 0 → (s.source 6).condition = false → (s.source 6).state = .inactive →
      (s.source 6).grace = 0 → (s.source 6).reaction = .report →
      exec .keepaliveTimerExpiry s = .next (raiseEvent .faultLatched 6 1
        (State.setSource { s with fault := { s.fault with keepTimer := none } } 6
          { s.source 6 with condition := true, state := .latched, timer := none }))) ∧
    (s.fault.keepTimer = some 0 → (s.source 6).condition = false → (s.source 6).state = .inactive →
      (s.source 6).grace = 0 → (s.source 6).reaction = .localHalt →
      exec .keepaliveTimerExpiry s = .next (halt (s.source 6).style (raiseEvent .faultLatched 6 3
        (State.setSource { s with fault := { s.fault with keepTimer := none } } 6
          { s.source 6 with condition := true, state := .latched, timer := none })))) ∧
    ((s.source 6).condition = true →
      let u : State := { s with fault := { s.fault with
        keepTimer := if s.fault.keepPeriod = 0 then none else some s.fault.keepPeriod } }
      let eased := u.setSource 6 { s.source 6 with condition := false, state := .inactive, timer := none }
      restartKeepalive s =
        if (s.source 6).state = .grace then
          (if (s.source 6).reaction = .none then eased else raiseEvent .faultEased 6 0 eased)
        else u.setSource 6 { s.source 6 with condition := false }) ∧
    ((s.source 6).condition = false → restartKeepalive s = { s with fault := { s.fault with
      keepTimer := if s.fault.keepPeriod = 0 then none else some s.fault.keepPeriod } }))

/-- The HALT request latches MANUAL and halts the station: every channel in the style given, the player stopped and emptied;
for GROUP_HALT a HALT frame with cause 8 is offered too; any other reaction, style or form is refused (R149, R150, R152).
CLEAR_FAULT is refused while a LATCHED source's condition is present; taken, it makes every LATCHED source INACTIVE, the
station RUNNING and every channel free of its halt flag in the mode it has, and raises FAULT_CLEARED (R72, R153). That the mask
of STILL_ACTIVE takes two bytes is the model's reading of R172 (log entry 29). -/
def Obligations.HaltAndClear : Prop :=
  (∀ (h : ReqCtx) (style mask : Byte) (s : State),
    (∀ reaction form : Byte, (reaction ≠ 3 ∧ reaction ≠ 4) ∨ 1 < style.toNat ∨ 1 < form.toNat →
      exec (.halt h reaction style form mask) s = .next (answer h .badArg [] s)) ∧
    ∀ st : Style, (style = 0 ∧ st = .brake) ∨ (style = 1 ∧ st = .coast) →
      ∃ t : State,
        exec (.halt h 3 style 1 mask) s = .next (answer h .ok [if s.fault.halted then 1 else 0] t) ∧
        t.fault = { s.fault with
          halted := true, manual := some { reaction := .localHalt, style := st, groups := .mask mask } } ∧
        (∀ c : Fin 4, t.chan c = { s.chan c with
          mode := match st with | .brake => .brake | .coast => .coast,
          integ := 0, duty := 0, nextC := 0, settle := 0, moveDone := false, lapse := false, haltFlag := true }) ∧
        t.sound = { s.sound with
          player := .stopped, current := none, count := 0, stopAtEnd := false, queue := [], nextCompare := 250 } ∧
        t.ports = s.ports ∧ t.watches = s.watches ∧ t.cue = s.cue ∧ t.listen = s.listen ∧ t.publish = s.publish ∧
        t.supply = s.supply ∧
        ∃ u : State, u.link.own = s.link.own ∧
          exec (.halt h 4 style 1 mask) s =
            .next (answer h .ok [if s.fault.halted then 1 else 0] (offer .halt [mask, 8] u).1) ∧
          u.chans = t.chans ∧ u.sound = t.sound ∧ u.fault.halted = true) ∧
  (∀ (h : ReqCtx) (s : State),
    ((∃ k : Fin 8, (s.source k).state = .latched ∧ (s.source k).condition = true) → ∃ m : Nat, m ≠ 0 ∧
      exec (.clearFault h) s = .next (answer h .stillActive
        [BitVec.ofNat 8 (m / 256), BitVec.ofNat 8 m] s) ∧
      ∀ k : Fin 8, m.testBit k.val = decide ((s.source k).state = .latched ∧ (s.source k).condition = true)) ∧
    ((∀ k : Fin 8, (s.source k).state = .latched → (s.source k).condition = false) → ∃ (m : Nat) (t : State),
      exec (.clearFault h) s = .next (answer h .ok [BitVec.ofNat 8 (m / 256), BitVec.ofNat 8 m]
        (raiseEvent .faultCleared 0 (BitVec.ofNat 32 m) t)) ∧
      t = { s with fault := t.fault, chans := t.chans } ∧
      t.fault.halted = false ∧ t.fault.manual = none ∧ t.fault.remote = none ∧
      (∀ k : Fin 8, t.source k = if (s.source k).state = .latched then { s.source k with state := .inactive }
        else s.source k) ∧
      (∀ c : Fin 4, t.chan c = { s.chan c with haltFlag := false }) ∧
      (∀ k : Fin 8, m.testBit k.val = decide ((s.source k).state = .latched)) ∧
      m.testBit 8 = s.fault.manual.isSome ∧ m.testBit 9 = s.fault.remote.isSome))

/-! ## The tablet port -/

/-- Decode and encode agree on every request a body can carry: no bit of an argument is dropped (R174, R176). -/
def Obligations.RequestsRoundTrip : Prop :=
  ∀ r : Request, r.wf = true → decodeRequest r.kind r.args = some r

/-- The bytes of a message with a request for this station, received from HUNT, execute the request's own row after the
route is set to SELF and the keepalive restarted: the receive states assemble the body, the check byte passes it, the
decoder reads it (R156, R158, R159). One for another station 1 to 14 is relayed, one for a number above 14 is answered
NO_ROUTE, and a body too short for a kind, or one whose kind or length no request has, is answered BAD_REQUEST, the keepalive
restarted where the request is for this station (R158, R161). -/
def Obligations.TabletMessageExecutesRequest : Prop :=
  ∀ (tag : Byte) (s : State), s.tablet.linkUp = true → s.tablet.rx = .hunt →
    let t : State := { s with tablet := { s.tablet with route := .self } }
    let own : Byte := s.link.own.setWidth 8
    (∀ r : Request, r.wf = true → ∀ d : Byte, d = 0 ∨ d = own →
      exec (.tabletMessage (lineBytes (requestBody tag d r))) s =
        exec (r.instr { tag := tag, station := own, dest := .self }) (restartKeepalive t)) ∧
    (∀ (r : Request) (d : Byte), r.wf = true → d ≠ 0 → d ≠ own →
      (d.toNat ≤ 14 → exec (.tabletMessage (lineBytes (requestBody tag d r))) s = .next
        (relay { tag := tag, station := d, dest := .self } (d.setWidth 4) (requestBody tag d r) t)) ∧
      (14 < d.toNat → exec (.tabletMessage (lineBytes (requestBody tag d r))) s =
        .next (answer { tag := tag, station := d, dest := .self } .noRoute [] t))) ∧
    (∀ d : Byte, ∀ body ∈ [[tag], [tag, d]], exec (.tabletMessage (lineBytes body)) s =
      .next (answer { tag := tag, station := own, dest := .self } .badRequest [] t)) ∧
    ∀ (d kind : Byte) (args : List Byte), args.length ≤ 57 → decodeRequest kind args = none →
      exec (.tabletMessage (lineBytes (tag :: d :: kind :: args))) s =
        .next (answer { tag := tag, station := if d = 0 then own else d, dest := .self } .badRequest []
          (if d = 0 ∨ d = own then restartKeepalive t else t))

/-- A byte is a low start bit, its eight bits with the least significant first, and a high stop bit; the transmit line is idle,
high, while LINK_UP is low or the report queue empty, and else carries the oldest record at 115,200 bit/s: the sync byte, its
length, body and check byte (R155, R157, R168, R171). A bad byte or a gap inside a message is counted and the port hunts again; while LINK_UP is low nothing is received or
sent; a sent record leaves the head of the queue (R155 to R157, R168). LINK_UP falling empties the report queue and the
receive state, and leaves route, mask, relays and counts; rising lets bytes be taken from HUNT, in a RESTART too (R168, R170).
The bytes of a part of a message are kept until the rest of it comes (R156). A length of 0 or above 60, and a check byte that is
not the CRC of length and body, make the message bad at that byte: counted, nothing of it executed (R156). That a bad message
or a gap in HUNT, a record sent from an empty queue and a rise while LINK_UP is high change nothing is the model's choice (log
entry 8), and so is that a rise in a cold reset waits for its end (log entries 10 and 11). -/
def Obligations.TabletLineEvents : Prop :=
  (∀ s : State,
    (∀ c ∈ [Instr.tabletBadMessage, .tabletGapTimeout],
      (s.tablet.linkUp = true → s.tablet.rx ≠ .hunt → exec c s =
        .next { s with tablet := { s.tablet with rx := .hunt, badCount := min 255 (s.tablet.badCount + 1) } }) ∧
      (s.tablet.linkUp = false ∨ s.tablet.rx = .hunt → exec c s = .next s)) ∧
    (∀ r rest, s.tablet.linkUp = true → s.tablet.reports = r :: rest →
      exec .recordSent s = .next { s with tablet := { s.tablet with reports := rest } }) ∧
    (s.tablet.linkUp = false ∨ s.tablet.reports = [] → s.tablet.line = .idle ∧ exec .recordSent s = .next s) ∧
    (∀ r rest, s.tablet.linkUp = true → s.tablet.reports = r :: rest →
      let len : Byte := BitVec.ofNat 8 r.length
      s.tablet.line = .sending 115200
        ((0xA5 :: len :: (r ++ [crc8 (len :: r)])).map fun v => { value := v, stopLow := false })) ∧
    (s.tablet.linkUp = false → ∀ bs, exec (.tabletMessage bs) s = .next s)) ∧
  (∀ s : State,
    exec .linkUpFall s = .next { s with tablet := { s.tablet with linkUp := false, reports := [], rx := .hunt } } ∧
    (s.tablet.linkUp = false → s.inReset = false ∨ s.tablet.restart.isSome = true →
      exec .linkUpRise s = .next { s with tablet := { s.tablet with linkUp := true, rx := .hunt } }) ∧
    (s.tablet.linkUp = true ∨ (s.inReset = true ∧ s.tablet.restart = none) → exec .linkUpRise s = .next s)) ∧
  SerialLine.idle.levels = [true] ∧ State.reset.tablet.line = .idle ∧
  (∀ (rate : Nat) (v : Byte) (bs : List LineByte),
    (SerialLine.sending rate []).levels = [] ∧
    (SerialLine.sending rate ({ value := v, stopLow := false } :: bs)).levels =
      [false, v.getLsbD 0, v.getLsbD 1, v.getLsbD 2, v.getLsbD 3, v.getLsbD 4, v.getLsbD 5, v.getLsbD 6, v.getLsbD 7, true] ++
        (SerialLine.sending rate bs).levels) ∧
  (∀ (len : Byte) (got : List Byte) (s : State), s.tablet.linkUp = true → s.tablet.rx = .hunt →
    let line (bs : List Byte) : List LineByte := bs.map fun v => { value := v, stopLow := false }
    let bad : State := { s with tablet := { s.tablet with badCount := min 255 (s.tablet.badCount + 1) } }
    (len = 0 ∨ 60 < len.toNat → exec (.tabletMessage (line [0xA5, len])) s = .next bad) ∧
    (len ≠ 0 → len.toNat ≤ 60 →
      (got.length < len.toNat → exec (.tabletMessage (line ([0xA5, len] ++ got))) s =
        .next { s with tablet := { s.tablet with rx := .body len got } }) ∧
      (got.length = len.toNat →
        exec (.tabletMessage (line ([0xA5, len] ++ got))) s =
          .next { s with tablet := { s.tablet with rx := .check len got } } ∧
        ∀ check : Byte, check ≠ crc8 (len :: got) →
          exec (.tabletMessage (line ([0xA5, len] ++ got ++ [check]))) s = .next bad)))

/-- A request for another station is relayed: too long BAD_REQUEST, a station not PRESENT NO_ROUTE, eight entries BUSY; else
an entry of 100 ms is made and the body goes out in a COMMAND frame (R161). A relay deadline that expires withdraws the
entry's waiting frame but not one in contention, removes the entry and answers NO_ANSWER (R19, R163); one that has ms left
does not expire (the ms are counted by idle steps: log entry 7). A delivered ANSWER frame for this station is taken (R12,
R164): it goes to the oldest SENT entry of its tag and sender, which is removed and answered to SELF; a QUEUED entry is never
matched, and an answer that matches none is discarded (R164). -/
def Obligations.RelaysRun : Prop :=
  (∀ (h : ReqCtx) (dest : BitVec 4) (body : List Byte) (s : State),
    (40 < body.length → relay h dest body s = answer h .badRequest [] s) ∧
    (body.length ≤ 40 → s.standalone = true ∨ s.link.present dest = none → relay h dest body s = answer h .noRoute [] s) ∧
    (body.length ≤ 40 → s.standalone = false → (s.link.present dest).isSome = true →
      (8 ≤ s.tablet.relays.length → relay h dest body s = answer h .busy [] s) ∧
      (s.tablet.relays.length < 8 → s.link.queue.length < 7 → s.link.state ≠ .idle →
        relay h dest body s = { s with
          link := { s.link with queue := s.link.queue ++
            [{ owner := .command s.tablet.nextRelay, claim := BitVec.ofNat 8 (128 + 4 * s.link.own.toNat), payload := body,
               spoils := 0, contending := false }] }
          tablet := { s.tablet with
            relays := s.tablet.relays ++
              [{ id := s.tablet.nextRelay, tag := h.tag, dest := dest, deadline := 100, status := .queued }]
            nextRelay := s.tablet.nextRelay + 1 } }))) ∧
  (∀ (s : State) (pre post : List Relay) (e : Relay), s.tablet.relays = pre ++ e :: post →
    (∀ r ∈ pre ++ post, r.id ≠ e.id) →
    (e.deadline ≠ 0 → exec (.deadlineTimerExpiry pre.length) s = .next s) ∧
    (e.deadline = 0 → ∃ q : List Frame, exec (.deadlineTimerExpiry pre.length) s = .next (placeAnswer [1, e.tag, e.dest.setWidth 8, 17]
        { s with link := { s.link with queue := q }, tablet := { s.tablet with relays := pre ++ post } }) ∧
      q.Sublist s.link.queue ∧
      ∀ f ∈ s.link.queue, f ∈ q ↔ ¬(f.contending = false ∧ f.owner = .command e.id))) ∧
  (∀ (sender : BitVec 4) (rest : List Byte) (s : State),
    s.link.state = .verdict → (∀ g ∈ s.link.queue, g.contending = false) → sender ≠ s.link.own →
    (s.link.present sender).isSome = true →
    s.link.rxHeld = some { claim := BitVec.ofNat 8 (129 + 4 * sender.toNat), payload := s.link.own.setWidth 8 :: rest } →
    exec .frameDelivered s = .next (takeAnswer sender (s.link.own.setWidth 8 :: rest) { s with link := { s.link with
      state := .idle, gapOpen := false, rxBroken := false, driving := false, rxHeld := none,
      delivered := min 65535 (s.link.delivered + 1),
      roster := s.link.roster.set sender.toNat (some 1000) sender.isLt } })) ∧
  (∀ (sender : BitVec 4) (addressee tag result : Byte) (data : List Byte) (s : State), data.length ≤ 37 →
    ((∀ e ∈ s.tablet.relays, ¬(e.status = .sent ∧ e.tag = tag ∧ e.dest = sender)) →
      takeAnswer sender (addressee :: tag :: result :: data) s = s) ∧
    (∀ pre e post, s.tablet.relays = pre ++ e :: post → (∀ r ∈ pre ++ post, r.id ≠ e.id) →
      e.status = .sent → e.tag = tag → e.dest = sender →
      (∀ r ∈ pre, ¬(r.status = .sent ∧ r.tag = tag ∧ r.dest = sender)) →
      takeAnswer sender (addressee :: tag :: result :: data) s =
        placeAnswer ([1, tag, sender.setWidth 8, result] ++ data)
          { s with tablet := { s.tablet with relays := pre ++ post } }) ∧
    ∀ p : List Byte, p.length < 3 → takeAnswer sender p s = s)

/-- A raised event: masked it changes nothing; for the route SELF it becomes a record that carries the lost count, placed
where 8 segments stay free; with no route, or LINK_UP low, it is dropped and the count kept; for a route of another station it
goes out in a NOTICE frame, counted lost where the queue refuses it (R165, R167). An issued answer:
for SELF it becomes a record where one segment stays free, else it is lost and counted, and LINK_UP low discards it; for
another station it is offered as an ANSWER frame, counted lost where the queue refuses it (R159, R167, R168). A delivered
NOTICE frame for this station is taken (R12, R166): it becomes an event record of its sender whose lost count is the sum held at 255, this station's count then 0 (R166). -/
def Obligations.ReportsFollowRoute : Prop :=
  (∀ (k : EventKind) (subject : Byte) (arg : Word) (s : State),
    (s.tablet.mask.getLsbD k.code = false → raiseEvent k subject arg s = s) ∧
    (s.tablet.mask.getLsbD k.code = true → s.tablet.lost ≤ 255 →
      (s.tablet.route = .none ∨ (s.tablet.route = .self ∧ s.tablet.linkUp = false) → raiseEvent k subject arg s = s) ∧
      (s.tablet.route = .self → s.tablet.linkUp = true → usedSegments s.tablet.reports ≤ 39 →
        raiseEvent k subject arg s = { s with tablet := { s.tablet with
          lost := 0
          reports := s.tablet.reports ++ [[2, BitVec.ofNat 8 k.code, s.link.own.setWidth 8, subject,
            arg.extractLsb' 24 8, arg.extractLsb' 16 8, arg.extractLsb' 8 8, arg.extractLsb' 0 8,
            BitVec.ofNat 8 s.tablet.lost]] } }) ∧
      (s.tablet.route = .self → s.tablet.linkUp = true → 40 ≤ usedSegments s.tablet.reports →
        raiseEvent k subject arg s = { s with tablet := { s.tablet with lost := min 255 (s.tablet.lost + 1) } }) ∧
      ∀ st, s.tablet.route = .station st → s.standalone = false →
        (s.link.queue.length < 7 → s.link.state ≠ .idle → raiseEvent k subject arg s = { s with
          tablet := { s.tablet with lost := 0 }
          link := { s.link with queue := s.link.queue ++
            [{ owner := .notice s.tablet.lost, claim := BitVec.ofNat 8 (130 + 4 * s.link.own.toNat),
               payload := [st.setWidth 8, 2, BitVec.ofNat 8 k.code, subject, arg.extractLsb' 24 8, arg.extractLsb' 16 8,
                 arg.extractLsb' 8 8, arg.extractLsb' 0 8, BitVec.ofNat 8 s.tablet.lost],
               spoils := 0, contending := false }] } }) ∧
        (8 ≤ s.link.queue.length → (∀ g ∈ s.link.queue, g.isPublish = false) →
          raiseEvent k subject arg s = { s with tablet := { s.tablet with lost := min 255 (s.tablet.lost + 1) } }))) ∧
  (∀ (h : ReqCtx) (c : Result) (d : List Byte) (s : State), d.length ≤ 37 →
    (h.dest = .self →
      (s.tablet.linkUp = false → answer h c d s = s) ∧
      (s.tablet.linkUp = true → usedSegments s.tablet.reports ≤ 44 → answer h c d s = { s with tablet := { s.tablet with
        reports := s.tablet.reports ++ [[1, h.tag, h.station, c.code] ++ d] } }) ∧
      (s.tablet.linkUp = true → 47 ≤ usedSegments s.tablet.reports → answer h c d s = { s with tablet := { s.tablet with
        lost := min 255 (s.tablet.lost + 1) } })) ∧
    ∀ st, h.dest = .station st → s.standalone = false →
      (s.link.queue.length < 7 → s.link.state ≠ .idle → answer h c d s = { s with link := { s.link with
        queue := s.link.queue ++ [{ owner := .answer, claim := BitVec.ofNat 8 (129 + 4 * s.link.own.toNat),
                                    payload := [st.setWidth 8, h.tag, c.code] ++ d, spoils := 0, contending := false }] } }) ∧
      (8 ≤ s.link.queue.length → (∀ g ∈ s.link.queue, g.isPublish = false) →
        answer h c d s = { s with tablet := { s.tablet with lost := min 255 (s.tablet.lost + 1) } })) ∧
  (∀ (sender : BitVec 4) (a b kind subject w x y z lost : Byte) (s : State),
    (s.tablet.linkUp = false → takeNotice sender [a, b, kind, subject, w, x, y, z, lost] s = s) ∧
    (s.tablet.linkUp = true → usedSegments s.tablet.reports ≤ 39 →
      takeNotice sender [a, b, kind, subject, w, x, y, z, lost] s = { s with tablet := { s.tablet with
        lost := 0
        reports := s.tablet.reports ++ [[2, kind, sender.setWidth 8, subject, w, x, y, z,
          BitVec.ofNat 8 (min 255 (lost.toNat + s.tablet.lost))]] } }) ∧
    ∀ p : List Byte, p.length ≠ 9 → takeNotice sender p s = s) ∧
  (∀ (sender : BitVec 4) (rest : List Byte) (s : State),
    s.link.state = .verdict → (∀ g ∈ s.link.queue, g.contending = false) → sender ≠ s.link.own →
    (s.link.present sender).isSome = true →
    s.link.rxHeld = some { claim := BitVec.ofNat 8 (130 + 4 * sender.toNat), payload := s.link.own.setWidth 8 :: rest } →
    exec .frameDelivered s = .next (takeNotice sender (s.link.own.setWidth 8 :: rest) { s with link := { s.link with
      state := .idle, gapOpen := false, rxBroken := false, driving := false, rxHeld := none,
      delivered := min 65535 (s.link.delivered + 1),
      roster := s.link.roster.set sender.toNat (some 1000) sender.isLt } }))

/-! ## Resets -/

/-- COLD_RESET and RESTART put every block at its values after a reset, the encoder levels and the waiting commands apart;
RESTART keeps LINK_UP and the receive state and holds its answer (R23, R28, R39, R76, R115, R125, R141, R143, R154, R170,
R171). RESET_END ends a reset that a COLD_RESET or RESTART began, with a battery that calls for no change and no watch set:
the straps are read, the controller listens unless standalone, Vbat is the first sample, LINK_UP is as read; with no reset
in progress it does nothing (R14, R22, R142, R178). RESTART_DONE answers the waiting RESTART once its reset has ended, with
the own number to SELF, and to another station unless the station came back standalone; with none waiting, or the reset not
ended, it does nothing (R170). That RESET_END reads straps, battery, temperature and LINK_UP and in which order it acts, the
straps before it, the window that holds the battery voltage sixteen times, the encoder levels kept and the queue of waiting
commands are the model's choices (log entries 1, 2, 3, 5 and 11). -/
def Obligations.ResetsRunTheirCourse : Prop :=
  (∀ (h : ReqCtx) (s : State),
    ∃ t : State, exec .coldReset s = .next t ∧
      t = { State.reset with straps := s.straps, link := t.link, chans := t.chans, pending := s.pending } ∧
      t.link = { State.reset.link with own := s.straps.stn, rate := s.straps.rate } ∧
      (∀ c : Fin 4, t.chan c =
        { State.reset.chan c with line1 := (s.chan c).line1, line2 := (s.chan c).line2 }) ∧
      exec (.restart h) s = .next { t with tablet := { t.tablet with
        linkUp := s.tablet.linkUp, rx := s.tablet.rx, restart := some h } }) ∧
  (∀ (p : Straps) (battery : Nat) (temperature : Int) (up : Bool) (s : State),
    (s.inReset = false → exec (.resetEnd p battery temperature up) s = .next s) ∧
    (s.inReset = true → s.supply.state = .normal → 5800 ≤ battery → temperature ≤ 125 →
      (s.source 4).condition = false → (s.source 5).condition = false → (∀ k : Fin 8, s.watch k = none) →
      exec (.resetEnd p battery temperature up) s = .next { s with
        inReset := false
        straps := p
        link := { State.reset.link with
          own := p.stn, rate := p.rate, state := if p.stn = 0 ∨ p.stn = 15 then .offline else .listening }
        supply := { window := Vector.replicate 16 battery, state := .normal, temperature := temperature }
        tablet := if up then { s.tablet with linkUp := true }
          else { s.tablet with linkUp := false, reports := [], rx := .hunt } })) ∧
  (∀ s : State,
    (s.inReset = true ∨ s.tablet.restart = none → exec .restartDone s = .next s) ∧
    ∀ h, s.inReset = false → s.tablet.restart = some h →
      let t : State := { s with tablet := { s.tablet with restart := none } }
      (h.dest = .self ∨ s.standalone = false →
        exec .restartDone s = .next (answer h .ok [s.link.own.setWidth 8] t)) ∧
      (∀ st, h.dest = .station st → s.standalone = true → exec .restartDone s = .next t))

end Statements
end

