-- ==== Sys2Proof/Laws/State.lean ====
section
/-! SUPPORT. One lemma for each field of the state under each of its updates, and what the table accessors read back. -/

namespace Sys2Proof.Machine

variable (s : State)

/-! ## Reading back the tables -/

theorem chan_setChan (c d : Fin 4) (x : Channel) : (s.setChan c x).chan d = if d = c then x else s.chan d := by
  simp only [State.chan, State.setChan, Vector.get_eq_getElem, Vector.getElem_set, Fin.ext_iff, eq_comm]

theorem port_setPort (p q : Fin 4) (x : Port) : (s.setPort p x).port q = if q = p then x else s.port q := by
  simp only [State.port, State.setPort, Vector.get_eq_getElem, Vector.getElem_set, Fin.ext_iff, eq_comm]

theorem watch_setWatch (k j : Fin 8) (w : Option Watch) : (s.setWatch k w).watch j = if j = k then w else s.watch j := by
  simp only [State.watch, State.setWatch, Vector.get_eq_getElem, Vector.getElem_set, Fin.ext_iff, eq_comm]

theorem entry_setEntry (k j : Fin 16) (e : Option ListenEntry) :
    (s.setEntry k e).entry j = if j = k then e else s.entry j := by
  simp only [State.entry, State.setEntry, Vector.get_eq_getElem, Vector.getElem_set, Fin.ext_iff, eq_comm]

theorem source_setSource (k j : Fin 8) (x : FaultSource) :
    (s.setSource k x).source j = if j = k then x else s.source j := by
  simp only [State.source, State.setSource, Vector.get_eq_getElem, Vector.getElem_set, Fin.ext_iff, eq_comm]

theorem present_setRoster (l : Link) (n m : BitVec 4) (t : Option Nat) :
    (l.setRoster n t).present m = if m = n then t else l.present m := by
  simp only [Link.present, Link.setRoster, Vector.get_eq_getElem, Vector.getElem_set, BitVec.toNat_eq, eq_comm,
    BitVec.toNat]

@[simp] theorem chan_setChan_self (c : Fin 4) (x : Channel) : (s.setChan c x).chan c = x := by simp [chan_setChan]

@[simp] theorem port_setPort_self (p : Fin 4) (x : Port) : (s.setPort p x).port p = x := by simp [port_setPort]

@[simp] theorem watch_setWatch_self (k : Fin 8) (w : Option Watch) : (s.setWatch k w).watch k = w := by
  simp [watch_setWatch]

@[simp] theorem entry_setEntry_self (k : Fin 16) (e : Option ListenEntry) : (s.setEntry k e).entry k = e := by
  simp [entry_setEntry]

@[simp] theorem source_setSource_self (k : Fin 8) (x : FaultSource) : (s.setSource k x).source k = x := by
  simp [source_setSource]

theorem chan_modChan (c d : Fin 4) (f : Channel → Channel) :
    (s.modChan c f).chan d = if d = c then f (s.chan c) else s.chan d := chan_setChan s c d _

theorem port_modPort (p q : Fin 4) (f : Port → Port) :
    (s.modPort p f).port q = if q = p then f (s.port p) else s.port q := port_setPort s p q _

@[simp] theorem chan_modChan_self (c : Fin 4) (f : Channel → Channel) : (s.modChan c f).chan c = f (s.chan c) := by
  simp [chan_modChan]

@[simp] theorem port_modPort_self (p : Fin 4) (f : Port → Port) : (s.modPort p f).port p = f (s.port p) := by
  simp [port_modPort]

/-! ## The fields an update leaves -/

@[simp] theorem setChan_inReset (c : Fin 4) (x : Channel) : (s.setChan c x).inReset = s.inReset := rfl
@[simp] theorem setChan_straps (c : Fin 4) (x : Channel) : (s.setChan c x).straps = s.straps := rfl
@[simp] theorem setChan_link (c : Fin 4) (x : Channel) : (s.setChan c x).link = s.link := rfl
@[simp] theorem setChan_publish (c : Fin 4) (x : Channel) : (s.setChan c x).publish = s.publish := rfl
@[simp] theorem setChan_listen (c : Fin 4) (x : Channel) : (s.setChan c x).listen = s.listen := rfl
@[simp] theorem setChan_cue (c : Fin 4) (x : Channel) : (s.setChan c x).cue = s.cue := rfl
@[simp] theorem setChan_ports (c : Fin 4) (x : Channel) : (s.setChan c x).ports = s.ports := rfl
@[simp] theorem setChan_watches (c : Fin 4) (x : Channel) : (s.setChan c x).watches = s.watches := rfl
@[simp] theorem setChan_sound (c : Fin 4) (x : Channel) : (s.setChan c x).sound = s.sound := rfl
@[simp] theorem setChan_supply (c : Fin 4) (x : Channel) : (s.setChan c x).supply = s.supply := rfl
@[simp] theorem setChan_fault (c : Fin 4) (x : Channel) : (s.setChan c x).fault = s.fault := rfl
@[simp] theorem setChan_tablet (c : Fin 4) (x : Channel) : (s.setChan c x).tablet = s.tablet := rfl
@[simp] theorem setChan_pending (c : Fin 4) (x : Channel) : (s.setChan c x).pending = s.pending := rfl

@[simp] theorem modChan_inReset (c : Fin 4) (f : Channel → Channel) : (s.modChan c f).inReset = s.inReset := rfl
@[simp] theorem modChan_straps (c : Fin 4) (f : Channel → Channel) : (s.modChan c f).straps = s.straps := rfl
@[simp] theorem modChan_link (c : Fin 4) (f : Channel → Channel) : (s.modChan c f).link = s.link := rfl
@[simp] theorem modChan_publish (c : Fin 4) (f : Channel → Channel) : (s.modChan c f).publish = s.publish := rfl
@[simp] theorem modChan_listen (c : Fin 4) (f : Channel → Channel) : (s.modChan c f).listen = s.listen := rfl
@[simp] theorem modChan_cue (c : Fin 4) (f : Channel → Channel) : (s.modChan c f).cue = s.cue := rfl
@[simp] theorem modChan_ports (c : Fin 4) (f : Channel → Channel) : (s.modChan c f).ports = s.ports := rfl
@[simp] theorem modChan_watches (c : Fin 4) (f : Channel → Channel) : (s.modChan c f).watches = s.watches := rfl
@[simp] theorem modChan_sound (c : Fin 4) (f : Channel → Channel) : (s.modChan c f).sound = s.sound := rfl
@[simp] theorem modChan_supply (c : Fin 4) (f : Channel → Channel) : (s.modChan c f).supply = s.supply := rfl
@[simp] theorem modChan_fault (c : Fin 4) (f : Channel → Channel) : (s.modChan c f).fault = s.fault := rfl
@[simp] theorem modChan_tablet (c : Fin 4) (f : Channel → Channel) : (s.modChan c f).tablet = s.tablet := rfl
@[simp] theorem modChan_pending (c : Fin 4) (f : Channel → Channel) : (s.modChan c f).pending = s.pending := rfl

@[simp] theorem setPort_inReset (p : Fin 4) (x : Port) : (s.setPort p x).inReset = s.inReset := rfl
@[simp] theorem setPort_straps (p : Fin 4) (x : Port) : (s.setPort p x).straps = s.straps := rfl
@[simp] theorem setPort_link (p : Fin 4) (x : Port) : (s.setPort p x).link = s.link := rfl
@[simp] theorem setPort_publish (p : Fin 4) (x : Port) : (s.setPort p x).publish = s.publish := rfl
@[simp] theorem setPort_listen (p : Fin 4) (x : Port) : (s.setPort p x).listen = s.listen := rfl
@[simp] theorem setPort_cue (p : Fin 4) (x : Port) : (s.setPort p x).cue = s.cue := rfl
@[simp] theorem setPort_chans (p : Fin 4) (x : Port) : (s.setPort p x).chans = s.chans := rfl
@[simp] theorem setPort_watches (p : Fin 4) (x : Port) : (s.setPort p x).watches = s.watches := rfl
@[simp] theorem setPort_sound (p : Fin 4) (x : Port) : (s.setPort p x).sound = s.sound := rfl
@[simp] theorem setPort_supply (p : Fin 4) (x : Port) : (s.setPort p x).supply = s.supply := rfl
@[simp] theorem setPort_fault (p : Fin 4) (x : Port) : (s.setPort p x).fault = s.fault := rfl
@[simp] theorem setPort_tablet (p : Fin 4) (x : Port) : (s.setPort p x).tablet = s.tablet := rfl
@[simp] theorem setPort_pending (p : Fin 4) (x : Port) : (s.setPort p x).pending = s.pending := rfl

@[simp] theorem modPort_inReset (p : Fin 4) (f : Port → Port) : (s.modPort p f).inReset = s.inReset := rfl
@[simp] theorem modPort_straps (p : Fin 4) (f : Port → Port) : (s.modPort p f).straps = s.straps := rfl
@[simp] theorem modPort_link (p : Fin 4) (f : Port → Port) : (s.modPort p f).link = s.link := rfl
@[simp] theorem modPort_publish (p : Fin 4) (f : Port → Port) : (s.modPort p f).publish = s.publish := rfl
@[simp] theorem modPort_listen (p : Fin 4) (f : Port → Port) : (s.modPort p f).listen = s.listen := rfl
@[simp] theorem modPort_cue (p : Fin 4) (f : Port → Port) : (s.modPort p f).cue = s.cue := rfl
@[simp] theorem modPort_chans (p : Fin 4) (f : Port → Port) : (s.modPort p f).chans = s.chans := rfl
@[simp] theorem modPort_watches (p : Fin 4) (f : Port → Port) : (s.modPort p f).watches = s.watches := rfl
@[simp] theorem modPort_sound (p : Fin 4) (f : Port → Port) : (s.modPort p f).sound = s.sound := rfl
@[simp] theorem modPort_supply (p : Fin 4) (f : Port → Port) : (s.modPort p f).supply = s.supply := rfl
@[simp] theorem modPort_fault (p : Fin 4) (f : Port → Port) : (s.modPort p f).fault = s.fault := rfl
@[simp] theorem modPort_tablet (p : Fin 4) (f : Port → Port) : (s.modPort p f).tablet = s.tablet := rfl
@[simp] theorem modPort_pending (p : Fin 4) (f : Port → Port) : (s.modPort p f).pending = s.pending := rfl

@[simp] theorem setWatch_inReset (k : Fin 8) (w : Option Watch) : (s.setWatch k w).inReset = s.inReset := rfl
@[simp] theorem setWatch_straps (k : Fin 8) (w : Option Watch) : (s.setWatch k w).straps = s.straps := rfl
@[simp] theorem setWatch_link (k : Fin 8) (w : Option Watch) : (s.setWatch k w).link = s.link := rfl
@[simp] theorem setWatch_publish (k : Fin 8) (w : Option Watch) : (s.setWatch k w).publish = s.publish := rfl
@[simp] theorem setWatch_listen (k : Fin 8) (w : Option Watch) : (s.setWatch k w).listen = s.listen := rfl
@[simp] theorem setWatch_cue (k : Fin 8) (w : Option Watch) : (s.setWatch k w).cue = s.cue := rfl
@[simp] theorem setWatch_chans (k : Fin 8) (w : Option Watch) : (s.setWatch k w).chans = s.chans := rfl
@[simp] theorem setWatch_ports (k : Fin 8) (w : Option Watch) : (s.setWatch k w).ports = s.ports := rfl
@[simp] theorem setWatch_sound (k : Fin 8) (w : Option Watch) : (s.setWatch k w).sound = s.sound := rfl
@[simp] theorem setWatch_supply (k : Fin 8) (w : Option Watch) : (s.setWatch k w).supply = s.supply := rfl
@[simp] theorem setWatch_fault (k : Fin 8) (w : Option Watch) : (s.setWatch k w).fault = s.fault := rfl
@[simp] theorem setWatch_tablet (k : Fin 8) (w : Option Watch) : (s.setWatch k w).tablet = s.tablet := rfl
@[simp] theorem setWatch_pending (k : Fin 8) (w : Option Watch) : (s.setWatch k w).pending = s.pending := rfl

@[simp] theorem setEntry_inReset (k : Fin 16) (e : Option ListenEntry) : (s.setEntry k e).inReset = s.inReset := rfl
@[simp] theorem setEntry_straps (k : Fin 16) (e : Option ListenEntry) : (s.setEntry k e).straps = s.straps := rfl
@[simp] theorem setEntry_link (k : Fin 16) (e : Option ListenEntry) : (s.setEntry k e).link = s.link := rfl
@[simp] theorem setEntry_publish (k : Fin 16) (e : Option ListenEntry) : (s.setEntry k e).publish = s.publish := rfl
@[simp] theorem setEntry_cue (k : Fin 16) (e : Option ListenEntry) : (s.setEntry k e).cue = s.cue := rfl
@[simp] theorem setEntry_chans (k : Fin 16) (e : Option ListenEntry) : (s.setEntry k e).chans = s.chans := rfl
@[simp] theorem setEntry_ports (k : Fin 16) (e : Option ListenEntry) : (s.setEntry k e).ports = s.ports := rfl
@[simp] theorem setEntry_watches (k : Fin 16) (e : Option ListenEntry) : (s.setEntry k e).watches = s.watches := rfl
@[simp] theorem setEntry_sound (k : Fin 16) (e : Option ListenEntry) : (s.setEntry k e).sound = s.sound := rfl
@[simp] theorem setEntry_supply (k : Fin 16) (e : Option ListenEntry) : (s.setEntry k e).supply = s.supply := rfl
@[simp] theorem setEntry_fault (k : Fin 16) (e : Option ListenEntry) : (s.setEntry k e).fault = s.fault := rfl
@[simp] theorem setEntry_tablet (k : Fin 16) (e : Option ListenEntry) : (s.setEntry k e).tablet = s.tablet := rfl
@[simp] theorem setEntry_pending (k : Fin 16) (e : Option ListenEntry) : (s.setEntry k e).pending = s.pending := rfl

@[simp] theorem setSource_inReset (k : Fin 8) (x : FaultSource) : (s.setSource k x).inReset = s.inReset := rfl
@[simp] theorem setSource_straps (k : Fin 8) (x : FaultSource) : (s.setSource k x).straps = s.straps := rfl
@[simp] theorem setSource_link (k : Fin 8) (x : FaultSource) : (s.setSource k x).link = s.link := rfl
@[simp] theorem setSource_publish (k : Fin 8) (x : FaultSource) : (s.setSource k x).publish = s.publish := rfl
@[simp] theorem setSource_listen (k : Fin 8) (x : FaultSource) : (s.setSource k x).listen = s.listen := rfl
@[simp] theorem setSource_cue (k : Fin 8) (x : FaultSource) : (s.setSource k x).cue = s.cue := rfl
@[simp] theorem setSource_chans (k : Fin 8) (x : FaultSource) : (s.setSource k x).chans = s.chans := rfl
@[simp] theorem setSource_ports (k : Fin 8) (x : FaultSource) : (s.setSource k x).ports = s.ports := rfl
@[simp] theorem setSource_watches (k : Fin 8) (x : FaultSource) : (s.setSource k x).watches = s.watches := rfl
@[simp] theorem setSource_sound (k : Fin 8) (x : FaultSource) : (s.setSource k x).sound = s.sound := rfl
@[simp] theorem setSource_supply (k : Fin 8) (x : FaultSource) : (s.setSource k x).supply = s.supply := rfl
@[simp] theorem setSource_tablet (k : Fin 8) (x : FaultSource) : (s.setSource k x).tablet = s.tablet := rfl
@[simp] theorem setSource_pending (k : Fin 8) (x : FaultSource) : (s.setSource k x).pending = s.pending := rfl
@[simp] theorem setSource_fault_manual (k : Fin 8) (x : FaultSource) : (s.setSource k x).fault.manual = s.fault.manual := rfl
@[simp] theorem setSource_fault_remoteStyle (k : Fin 8) (x : FaultSource) : (s.setSource k x).fault.remoteStyle = s.fault.remoteStyle := rfl
@[simp] theorem setSource_fault_remote (k : Fin 8) (x : FaultSource) : (s.setSource k x).fault.remote = s.fault.remote := rfl
@[simp] theorem setSource_fault_halted (k : Fin 8) (x : FaultSource) : (s.setSource k x).fault.halted = s.fault.halted := rfl
@[simp] theorem setSource_fault_keepPeriod (k : Fin 8) (x : FaultSource) : (s.setSource k x).fault.keepPeriod = s.fault.keepPeriod := rfl
@[simp] theorem setSource_fault_keepTimer (k : Fin 8) (x : FaultSource) : (s.setSource k x).fault.keepTimer = s.fault.keepTimer := rfl

@[simp] theorem withSound_inReset (x : Sound) : (s.withSound x).inReset = s.inReset := rfl
@[simp] theorem withSound_straps (x : Sound) : (s.withSound x).straps = s.straps := rfl
@[simp] theorem withSound_link (x : Sound) : (s.withSound x).link = s.link := rfl
@[simp] theorem withSound_publish (x : Sound) : (s.withSound x).publish = s.publish := rfl
@[simp] theorem withSound_listen (x : Sound) : (s.withSound x).listen = s.listen := rfl
@[simp] theorem withSound_cue (x : Sound) : (s.withSound x).cue = s.cue := rfl
@[simp] theorem withSound_chans (x : Sound) : (s.withSound x).chans = s.chans := rfl
@[simp] theorem withSound_ports (x : Sound) : (s.withSound x).ports = s.ports := rfl
@[simp] theorem withSound_watches (x : Sound) : (s.withSound x).watches = s.watches := rfl
@[simp] theorem withSound_supply (x : Sound) : (s.withSound x).supply = s.supply := rfl
@[simp] theorem withSound_fault (x : Sound) : (s.withSound x).fault = s.fault := rfl
@[simp] theorem withSound_tablet (x : Sound) : (s.withSound x).tablet = s.tablet := rfl
@[simp] theorem withSound_pending (x : Sound) : (s.withSound x).pending = s.pending := rfl
@[simp] theorem withSound_sound (x : Sound) : (s.withSound x).sound = x := rfl

@[simp] theorem withTable_inReset (t : List CueEntry) : (s.withTable t).inReset = s.inReset := rfl
@[simp] theorem withTable_straps (t : List CueEntry) : (s.withTable t).straps = s.straps := rfl
@[simp] theorem withTable_link (t : List CueEntry) : (s.withTable t).link = s.link := rfl
@[simp] theorem withTable_publish (t : List CueEntry) : (s.withTable t).publish = s.publish := rfl
@[simp] theorem withTable_listen (t : List CueEntry) : (s.withTable t).listen = s.listen := rfl
@[simp] theorem withTable_chans (t : List CueEntry) : (s.withTable t).chans = s.chans := rfl
@[simp] theorem withTable_ports (t : List CueEntry) : (s.withTable t).ports = s.ports := rfl
@[simp] theorem withTable_watches (t : List CueEntry) : (s.withTable t).watches = s.watches := rfl
@[simp] theorem withTable_sound (t : List CueEntry) : (s.withTable t).sound = s.sound := rfl
@[simp] theorem withTable_supply (t : List CueEntry) : (s.withTable t).supply = s.supply := rfl
@[simp] theorem withTable_fault (t : List CueEntry) : (s.withTable t).fault = s.fault := rfl
@[simp] theorem withTable_tablet (t : List CueEntry) : (s.withTable t).tablet = s.tablet := rfl
@[simp] theorem withTable_pending (t : List CueEntry) : (s.withTable t).pending = s.pending := rfl
@[simp] theorem withTable_table (t : List CueEntry) : (s.withTable t).cue.table = t := rfl
@[simp] theorem withTable_membership (t : List CueEntry) : (s.withTable t).cue.membership = s.cue.membership := rfl
@[simp] theorem withTable_clock (t : List CueEntry) : (s.withTable t).cue.clock = s.cue.clock := rfl

@[simp] theorem withSupply_inReset (x : SupplyState) : (s.withSupply x).inReset = s.inReset := rfl
@[simp] theorem withSupply_straps (x : SupplyState) : (s.withSupply x).straps = s.straps := rfl
@[simp] theorem withSupply_link (x : SupplyState) : (s.withSupply x).link = s.link := rfl
@[simp] theorem withSupply_publish (x : SupplyState) : (s.withSupply x).publish = s.publish := rfl
@[simp] theorem withSupply_listen (x : SupplyState) : (s.withSupply x).listen = s.listen := rfl
@[simp] theorem withSupply_cue (x : SupplyState) : (s.withSupply x).cue = s.cue := rfl
@[simp] theorem withSupply_chans (x : SupplyState) : (s.withSupply x).chans = s.chans := rfl
@[simp] theorem withSupply_ports (x : SupplyState) : (s.withSupply x).ports = s.ports := rfl
@[simp] theorem withSupply_watches (x : SupplyState) : (s.withSupply x).watches = s.watches := rfl
@[simp] theorem withSupply_sound (x : SupplyState) : (s.withSupply x).sound = s.sound := rfl
@[simp] theorem withSupply_fault (x : SupplyState) : (s.withSupply x).fault = s.fault := rfl
@[simp] theorem withSupply_tablet (x : SupplyState) : (s.withSupply x).tablet = s.tablet := rfl
@[simp] theorem withSupply_pending (x : SupplyState) : (s.withSupply x).pending = s.pending := rfl
@[simp] theorem withSupply_state (x : SupplyState) : (s.withSupply x).supply.state = x := rfl

@[simp] theorem modLink_inReset (f : Link → Link) : (s.modLink f).inReset = s.inReset := rfl
@[simp] theorem modLink_straps (f : Link → Link) : (s.modLink f).straps = s.straps := rfl
@[simp] theorem modLink_publish (f : Link → Link) : (s.modLink f).publish = s.publish := rfl
@[simp] theorem modLink_listen (f : Link → Link) : (s.modLink f).listen = s.listen := rfl
@[simp] theorem modLink_cue (f : Link → Link) : (s.modLink f).cue = s.cue := rfl
@[simp] theorem modLink_chans (f : Link → Link) : (s.modLink f).chans = s.chans := rfl
@[simp] theorem modLink_ports (f : Link → Link) : (s.modLink f).ports = s.ports := rfl
@[simp] theorem modLink_watches (f : Link → Link) : (s.modLink f).watches = s.watches := rfl
@[simp] theorem modLink_sound (f : Link → Link) : (s.modLink f).sound = s.sound := rfl
@[simp] theorem modLink_supply (f : Link → Link) : (s.modLink f).supply = s.supply := rfl
@[simp] theorem modLink_fault (f : Link → Link) : (s.modLink f).fault = s.fault := rfl
@[simp] theorem modLink_tablet (f : Link → Link) : (s.modLink f).tablet = s.tablet := rfl
@[simp] theorem modLink_pending (f : Link → Link) : (s.modLink f).pending = s.pending := rfl
@[simp] theorem modLink_link (f : Link → Link) : (s.modLink f).link = f s.link := rfl

/-! ## An accessor reads its table alone -/

theorem chan_of_chans {s t : State} (h : t.chans = s.chans) (c : Fin 4) : t.chan c = s.chan c := by
  simp only [State.chan, h]

theorem port_of_ports {s t : State} (h : t.ports = s.ports) (p : Fin 4) : t.port p = s.port p := by
  simp only [State.port, h]

theorem watch_of_watches {s t : State} (h : t.watches = s.watches) (k : Fin 8) : t.watch k = s.watch k := by
  simp only [State.watch, h]

theorem entry_of_listen {s t : State} (h : t.listen = s.listen) (k : Fin 16) : t.entry k = s.entry k := by
  simp only [State.entry, h]

theorem source_of_sources {s t : State} (h : t.fault.sources = s.fault.sources) (k : Fin 8) : t.source k = s.source k := by
  simp only [State.source, h]

end Sys2Proof.Machine
end

