-- ==== Sys2Proof/Laws/Ops.lean ====
section
/-! SUPPORT. What each shared operation can do, said once, and the fields it leaves: offers, records, events, answers. -/

namespace Sys2Proof.Machine

/-! ## Shapes: everything an operation can change -/

/-- The start of contention touches the state, the open gap and the queue. -/
theorem claimStart_shape (l : Link) :
    claimStart l = { l with
      state := (claimStart l).state, gapOpen := (claimStart l).gapOpen, queue := (claimStart l).queue } := by
  unfold claimStart
  split <;> rfl

/-- An accepted offer touches the queue, and a PUBLISH frame's the held place. -/
theorem enqueue_shape {f : Frame} {l l' : Link} (h : enqueue f l = some l') :
    l' = { l with queue := l'.queue, held := l'.held } ∧ (f.isPublish = false → l'.held = l.held) := by
  unfold enqueue at h
  split at h
  · rename_i hp
    have hf : ∀ P : Prop, f.isPublish = false → P := fun P hn => by simp [hp] at hn
    split at h
    · cases h; exact ⟨rfl, hf _⟩
    · split at h
      · cases h; exact ⟨rfl, hf _⟩
      · split at h
        · cases h; exact ⟨rfl, hf _⟩
        · cases h
  · split at h
    · cases h; exact ⟨rfl, fun _ => rfl⟩
    · split at h
      · cases h; exact ⟨rfl, fun _ => rfl⟩
      · cases h

/-- An offer touches four fields of the link, the held place for a PUBLISH frame alone. -/
theorem offer_shape (o : FrameOwner) (p : List Byte) (s : State) :
    ∃ st g q h, (offer o p s).1 = { s with link := { s.link with state := st, gapOpen := g, queue := q, held := h } } ∧
      (o ≠ .publish → h = s.link.held) := by
  unfold offer
  split
  · exact ⟨_, _, _, _, rfl, fun _ => rfl⟩
  · split
    · rename_i l hl
      obtain ⟨he, hh⟩ := enqueue_shape hl
      rw [claimStart_shape l, he]
      refine ⟨_, _, _, _, rfl, fun ho => hh ?_⟩
      simpa [Frame.isPublish, newFrame] using ho
    · exact ⟨_, _, _, _, rfl, fun _ => rfl⟩

/-- A placed or dropped record touches the report queue and the lost count. -/
theorem placeRecord_shape (n c : Nat) (b : List Byte) (s : State) :
    ∃ r l, placeRecord n c b s = { s with tablet := { s.tablet with reports := r, lost := l } } := by
  unfold placeRecord addLost
  split <;> exact ⟨_, _, rfl⟩

/-- Raising an event touches the report queue, the lost count, and the send queue with its contention. -/
theorem raiseEvent_shape (k : EventKind) (b : Byte) (a : Word) (s : State) :
    ∃ st g q r l, raiseEvent k b a s = { s with
      link := { s.link with state := st, gapOpen := g, queue := q }
      tablet := { s.tablet with reports := r, lost := l } } := by
  unfold raiseEvent routeEvent
  split
  · split
    · exact ⟨_, _, _, _, _, rfl⟩
    · split
      · obtain ⟨r, l, h⟩ := placeRecord_shape 8 s.tablet.lost (eventBody (toByte k.code) s.ownByte b a s.tablet.lost)
          { s with tablet := { s.tablet with lost := 0 } }
        exact ⟨_, _, _, r, l, h⟩
      · exact ⟨_, _, _, _, _, rfl⟩
    · rename_i t _
      obtain ⟨st, g, q, h, he, hh⟩ := offer_shape (.notice s.tablet.lost)
        (noticePayload (t.setWidth 8) (toByte k.code) b a s.tablet.lost) { s with tablet := { s.tablet with lost := 0 } }
      have hh := hh (by simp)
      subst hh
      simp only [he, addLost]
      split <;> exact ⟨_, _, _, _, _, rfl⟩
  · exact ⟨_, _, _, _, _, rfl⟩

/-- Issuing an answer touches what raising an event touches. -/
theorem answer_shape (h : ReqCtx) (c : Result) (d : List Byte) (s : State) :
    ∃ st g q r l, answer h c d s = { s with
      link := { s.link with state := st, gapOpen := g, queue := q }
      tablet := { s.tablet with reports := r, lost := l } } := by
  unfold answer placeAnswer
  split
  · split
    · obtain ⟨r, l, he⟩ := placeRecord_shape 1 0 (answerBody h.tag h.station c d) s
      exact ⟨_, _, _, r, l, he⟩
    · exact ⟨_, _, _, _, _, rfl⟩
  · rename_i t _
    obtain ⟨st, g, q, x, he, hh⟩ := offer_shape .answer (answerPayload (t.setWidth 8) h.tag c d) s
    have hh := hh (by simp)
    subst hh
    simp only [he, addLost]
    split <;> exact ⟨_, _, _, _, _, rfl⟩

/-! ## The fields an operation leaves -/

@[simp] theorem offer_inReset (o : FrameOwner) (p : List Byte) (s : State) : (offer o p s).1.inReset = s.inReset := by
  obtain ⟨_, _, _, _, h, _⟩ := offer_shape o p s
  rw [h]
@[simp] theorem offer_straps (o : FrameOwner) (p : List Byte) (s : State) : (offer o p s).1.straps = s.straps := by
  obtain ⟨_, _, _, _, h, _⟩ := offer_shape o p s
  rw [h]
@[simp] theorem offer_publish (o : FrameOwner) (p : List Byte) (s : State) : (offer o p s).1.publish = s.publish := by
  obtain ⟨_, _, _, _, h, _⟩ := offer_shape o p s
  rw [h]
@[simp] theorem offer_listen (o : FrameOwner) (p : List Byte) (s : State) : (offer o p s).1.listen = s.listen := by
  obtain ⟨_, _, _, _, h, _⟩ := offer_shape o p s
  rw [h]
@[simp] theorem offer_cue (o : FrameOwner) (p : List Byte) (s : State) : (offer o p s).1.cue = s.cue := by
  obtain ⟨_, _, _, _, h, _⟩ := offer_shape o p s
  rw [h]
@[simp] theorem offer_chans (o : FrameOwner) (p : List Byte) (s : State) : (offer o p s).1.chans = s.chans := by
  obtain ⟨_, _, _, _, h, _⟩ := offer_shape o p s
  rw [h]
@[simp] theorem offer_ports (o : FrameOwner) (p : List Byte) (s : State) : (offer o p s).1.ports = s.ports := by
  obtain ⟨_, _, _, _, h, _⟩ := offer_shape o p s
  rw [h]
@[simp] theorem offer_watches (o : FrameOwner) (p : List Byte) (s : State) : (offer o p s).1.watches = s.watches := by
  obtain ⟨_, _, _, _, h, _⟩ := offer_shape o p s
  rw [h]
@[simp] theorem offer_sound (o : FrameOwner) (p : List Byte) (s : State) : (offer o p s).1.sound = s.sound := by
  obtain ⟨_, _, _, _, h, _⟩ := offer_shape o p s
  rw [h]
@[simp] theorem offer_supply (o : FrameOwner) (p : List Byte) (s : State) : (offer o p s).1.supply = s.supply := by
  obtain ⟨_, _, _, _, h, _⟩ := offer_shape o p s
  rw [h]
@[simp] theorem offer_fault (o : FrameOwner) (p : List Byte) (s : State) : (offer o p s).1.fault = s.fault := by
  obtain ⟨_, _, _, _, h, _⟩ := offer_shape o p s
  rw [h]
@[simp] theorem offer_tablet (o : FrameOwner) (p : List Byte) (s : State) : (offer o p s).1.tablet = s.tablet := by
  obtain ⟨_, _, _, _, h, _⟩ := offer_shape o p s
  rw [h]
@[simp] theorem offer_pending (o : FrameOwner) (p : List Byte) (s : State) : (offer o p s).1.pending = s.pending := by
  obtain ⟨_, _, _, _, h, _⟩ := offer_shape o p s
  rw [h]
@[simp] theorem offer_link_own (o : FrameOwner) (p : List Byte) (s : State) : (offer o p s).1.link.own = s.link.own := by
  obtain ⟨_, _, _, _, h, _⟩ := offer_shape o p s
  rw [h]
@[simp] theorem offer_link_rate (o : FrameOwner) (p : List Byte) (s : State) : (offer o p s).1.link.rate = s.link.rate := by
  obtain ⟨_, _, _, _, h, _⟩ := offer_shape o p s
  rw [h]
@[simp] theorem offer_link_rxBroken (o : FrameOwner) (p : List Byte) (s : State) : (offer o p s).1.link.rxBroken = s.link.rxBroken := by
  obtain ⟨_, _, _, _, h, _⟩ := offer_shape o p s
  rw [h]
@[simp] theorem offer_link_driving (o : FrameOwner) (p : List Byte) (s : State) : (offer o p s).1.link.driving = s.link.driving := by
  obtain ⟨_, _, _, _, h, _⟩ := offer_shape o p s
  rw [h]
@[simp] theorem offer_link_rxHeld (o : FrameOwner) (p : List Byte) (s : State) : (offer o p s).1.link.rxHeld = s.link.rxHeld := by
  obtain ⟨_, _, _, _, h, _⟩ := offer_shape o p s
  rw [h]
@[simp] theorem offer_link_roster (o : FrameOwner) (p : List Byte) (s : State) : (offer o p s).1.link.roster = s.link.roster := by
  obtain ⟨_, _, _, _, h, _⟩ := offer_shape o p s
  rw [h]
@[simp] theorem offer_link_delivered (o : FrameOwner) (p : List Byte) (s : State) : (offer o p s).1.link.delivered = s.link.delivered := by
  obtain ⟨_, _, _, _, h, _⟩ := offer_shape o p s
  rw [h]
@[simp] theorem offer_link_spoiled (o : FrameOwner) (p : List Byte) (s : State) : (offer o p s).1.link.spoiled = s.link.spoiled := by
  obtain ⟨_, _, _, _, h, _⟩ := offer_shape o p s
  rw [h]
@[simp] theorem offer_link_runt (o : FrameOwner) (p : List Byte) (s : State) : (offer o p s).1.link.runt = s.link.runt := by
  obtain ⟨_, _, _, _, h, _⟩ := offer_shape o p s
  rw [h]
@[simp] theorem offer_link_broken (o : FrameOwner) (p : List Byte) (s : State) : (offer o p s).1.link.broken = s.link.broken := by
  obtain ⟨_, _, _, _, h, _⟩ := offer_shape o p s
  rw [h]
@[simp] theorem offer_link_dupTimer (o : FrameOwner) (p : List Byte) (s : State) : (offer o p s).1.link.dupTimer = s.link.dupTimer := by
  obtain ⟨_, _, _, _, h, _⟩ := offer_shape o p s
  rw [h]

@[simp] theorem placeRecord_inReset (n c : Nat) (b : List Byte) (s : State) : (placeRecord n c b s).inReset = s.inReset := by
  obtain ⟨_, _, h⟩ := placeRecord_shape n c b s
  rw [h]
@[simp] theorem placeRecord_straps (n c : Nat) (b : List Byte) (s : State) : (placeRecord n c b s).straps = s.straps := by
  obtain ⟨_, _, h⟩ := placeRecord_shape n c b s
  rw [h]
@[simp] theorem placeRecord_link (n c : Nat) (b : List Byte) (s : State) : (placeRecord n c b s).link = s.link := by
  obtain ⟨_, _, h⟩ := placeRecord_shape n c b s
  rw [h]
@[simp] theorem placeRecord_publish (n c : Nat) (b : List Byte) (s : State) : (placeRecord n c b s).publish = s.publish := by
  obtain ⟨_, _, h⟩ := placeRecord_shape n c b s
  rw [h]
@[simp] theorem placeRecord_listen (n c : Nat) (b : List Byte) (s : State) : (placeRecord n c b s).listen = s.listen := by
  obtain ⟨_, _, h⟩ := placeRecord_shape n c b s
  rw [h]
@[simp] theorem placeRecord_cue (n c : Nat) (b : List Byte) (s : State) : (placeRecord n c b s).cue = s.cue := by
  obtain ⟨_, _, h⟩ := placeRecord_shape n c b s
  rw [h]
@[simp] theorem placeRecord_chans (n c : Nat) (b : List Byte) (s : State) : (placeRecord n c b s).chans = s.chans := by
  obtain ⟨_, _, h⟩ := placeRecord_shape n c b s
  rw [h]
@[simp] theorem placeRecord_ports (n c : Nat) (b : List Byte) (s : State) : (placeRecord n c b s).ports = s.ports := by
  obtain ⟨_, _, h⟩ := placeRecord_shape n c b s
  rw [h]
@[simp] theorem placeRecord_watches (n c : Nat) (b : List Byte) (s : State) : (placeRecord n c b s).watches = s.watches := by
  obtain ⟨_, _, h⟩ := placeRecord_shape n c b s
  rw [h]
@[simp] theorem placeRecord_sound (n c : Nat) (b : List Byte) (s : State) : (placeRecord n c b s).sound = s.sound := by
  obtain ⟨_, _, h⟩ := placeRecord_shape n c b s
  rw [h]
@[simp] theorem placeRecord_supply (n c : Nat) (b : List Byte) (s : State) : (placeRecord n c b s).supply = s.supply := by
  obtain ⟨_, _, h⟩ := placeRecord_shape n c b s
  rw [h]
@[simp] theorem placeRecord_fault (n c : Nat) (b : List Byte) (s : State) : (placeRecord n c b s).fault = s.fault := by
  obtain ⟨_, _, h⟩ := placeRecord_shape n c b s
  rw [h]
@[simp] theorem placeRecord_pending (n c : Nat) (b : List Byte) (s : State) : (placeRecord n c b s).pending = s.pending := by
  obtain ⟨_, _, h⟩ := placeRecord_shape n c b s
  rw [h]
@[simp] theorem placeRecord_tablet_linkUp (n c : Nat) (b : List Byte) (s : State) : (placeRecord n c b s).tablet.linkUp = s.tablet.linkUp := by
  obtain ⟨_, _, h⟩ := placeRecord_shape n c b s
  rw [h]
@[simp] theorem placeRecord_tablet_rx (n c : Nat) (b : List Byte) (s : State) : (placeRecord n c b s).tablet.rx = s.tablet.rx := by
  obtain ⟨_, _, h⟩ := placeRecord_shape n c b s
  rw [h]
@[simp] theorem placeRecord_tablet_badCount (n c : Nat) (b : List Byte) (s : State) : (placeRecord n c b s).tablet.badCount = s.tablet.badCount := by
  obtain ⟨_, _, h⟩ := placeRecord_shape n c b s
  rw [h]
@[simp] theorem placeRecord_tablet_relays (n c : Nat) (b : List Byte) (s : State) : (placeRecord n c b s).tablet.relays = s.tablet.relays := by
  obtain ⟨_, _, h⟩ := placeRecord_shape n c b s
  rw [h]
@[simp] theorem placeRecord_tablet_nextRelay (n c : Nat) (b : List Byte) (s : State) : (placeRecord n c b s).tablet.nextRelay = s.tablet.nextRelay := by
  obtain ⟨_, _, h⟩ := placeRecord_shape n c b s
  rw [h]
@[simp] theorem placeRecord_tablet_route (n c : Nat) (b : List Byte) (s : State) : (placeRecord n c b s).tablet.route = s.tablet.route := by
  obtain ⟨_, _, h⟩ := placeRecord_shape n c b s
  rw [h]
@[simp] theorem placeRecord_tablet_mask (n c : Nat) (b : List Byte) (s : State) : (placeRecord n c b s).tablet.mask = s.tablet.mask := by
  obtain ⟨_, _, h⟩ := placeRecord_shape n c b s
  rw [h]
@[simp] theorem placeRecord_tablet_restart (n c : Nat) (b : List Byte) (s : State) : (placeRecord n c b s).tablet.restart = s.tablet.restart := by
  obtain ⟨_, _, h⟩ := placeRecord_shape n c b s
  rw [h]

@[simp] theorem raiseEvent_inReset (k : EventKind) (b : Byte) (a : Word) (s : State) : (raiseEvent k b a s).inReset = s.inReset := by
  obtain ⟨_, _, _, _, _, h⟩ := raiseEvent_shape k b a s
  rw [h]
@[simp] theorem raiseEvent_straps (k : EventKind) (b : Byte) (a : Word) (s : State) : (raiseEvent k b a s).straps = s.straps := by
  obtain ⟨_, _, _, _, _, h⟩ := raiseEvent_shape k b a s
  rw [h]
@[simp] theorem raiseEvent_publish (k : EventKind) (b : Byte) (a : Word) (s : State) : (raiseEvent k b a s).publish = s.publish := by
  obtain ⟨_, _, _, _, _, h⟩ := raiseEvent_shape k b a s
  rw [h]
@[simp] theorem raiseEvent_listen (k : EventKind) (b : Byte) (a : Word) (s : State) : (raiseEvent k b a s).listen = s.listen := by
  obtain ⟨_, _, _, _, _, h⟩ := raiseEvent_shape k b a s
  rw [h]
@[simp] theorem raiseEvent_cue (k : EventKind) (b : Byte) (a : Word) (s : State) : (raiseEvent k b a s).cue = s.cue := by
  obtain ⟨_, _, _, _, _, h⟩ := raiseEvent_shape k b a s
  rw [h]
@[simp] theorem raiseEvent_chans (k : EventKind) (b : Byte) (a : Word) (s : State) : (raiseEvent k b a s).chans = s.chans := by
  obtain ⟨_, _, _, _, _, h⟩ := raiseEvent_shape k b a s
  rw [h]
@[simp] theorem raiseEvent_ports (k : EventKind) (b : Byte) (a : Word) (s : State) : (raiseEvent k b a s).ports = s.ports := by
  obtain ⟨_, _, _, _, _, h⟩ := raiseEvent_shape k b a s
  rw [h]
@[simp] theorem raiseEvent_watches (k : EventKind) (b : Byte) (a : Word) (s : State) : (raiseEvent k b a s).watches = s.watches := by
  obtain ⟨_, _, _, _, _, h⟩ := raiseEvent_shape k b a s
  rw [h]
@[simp] theorem raiseEvent_sound (k : EventKind) (b : Byte) (a : Word) (s : State) : (raiseEvent k b a s).sound = s.sound := by
  obtain ⟨_, _, _, _, _, h⟩ := raiseEvent_shape k b a s
  rw [h]
@[simp] theorem raiseEvent_supply (k : EventKind) (b : Byte) (a : Word) (s : State) : (raiseEvent k b a s).supply = s.supply := by
  obtain ⟨_, _, _, _, _, h⟩ := raiseEvent_shape k b a s
  rw [h]
@[simp] theorem raiseEvent_fault (k : EventKind) (b : Byte) (a : Word) (s : State) : (raiseEvent k b a s).fault = s.fault := by
  obtain ⟨_, _, _, _, _, h⟩ := raiseEvent_shape k b a s
  rw [h]
@[simp] theorem raiseEvent_pending (k : EventKind) (b : Byte) (a : Word) (s : State) : (raiseEvent k b a s).pending = s.pending := by
  obtain ⟨_, _, _, _, _, h⟩ := raiseEvent_shape k b a s
  rw [h]
@[simp] theorem raiseEvent_link_own (k : EventKind) (b : Byte) (a : Word) (s : State) : (raiseEvent k b a s).link.own = s.link.own := by
  obtain ⟨_, _, _, _, _, h⟩ := raiseEvent_shape k b a s
  rw [h]
@[simp] theorem raiseEvent_link_rate (k : EventKind) (b : Byte) (a : Word) (s : State) : (raiseEvent k b a s).link.rate = s.link.rate := by
  obtain ⟨_, _, _, _, _, h⟩ := raiseEvent_shape k b a s
  rw [h]
@[simp] theorem raiseEvent_link_rxBroken (k : EventKind) (b : Byte) (a : Word) (s : State) : (raiseEvent k b a s).link.rxBroken = s.link.rxBroken := by
  obtain ⟨_, _, _, _, _, h⟩ := raiseEvent_shape k b a s
  rw [h]
@[simp] theorem raiseEvent_link_driving (k : EventKind) (b : Byte) (a : Word) (s : State) : (raiseEvent k b a s).link.driving = s.link.driving := by
  obtain ⟨_, _, _, _, _, h⟩ := raiseEvent_shape k b a s
  rw [h]
@[simp] theorem raiseEvent_link_rxHeld (k : EventKind) (b : Byte) (a : Word) (s : State) : (raiseEvent k b a s).link.rxHeld = s.link.rxHeld := by
  obtain ⟨_, _, _, _, _, h⟩ := raiseEvent_shape k b a s
  rw [h]
@[simp] theorem raiseEvent_link_roster (k : EventKind) (b : Byte) (a : Word) (s : State) : (raiseEvent k b a s).link.roster = s.link.roster := by
  obtain ⟨_, _, _, _, _, h⟩ := raiseEvent_shape k b a s
  rw [h]
@[simp] theorem raiseEvent_link_delivered (k : EventKind) (b : Byte) (a : Word) (s : State) : (raiseEvent k b a s).link.delivered = s.link.delivered := by
  obtain ⟨_, _, _, _, _, h⟩ := raiseEvent_shape k b a s
  rw [h]
@[simp] theorem raiseEvent_link_spoiled (k : EventKind) (b : Byte) (a : Word) (s : State) : (raiseEvent k b a s).link.spoiled = s.link.spoiled := by
  obtain ⟨_, _, _, _, _, h⟩ := raiseEvent_shape k b a s
  rw [h]
@[simp] theorem raiseEvent_link_runt (k : EventKind) (b : Byte) (a : Word) (s : State) : (raiseEvent k b a s).link.runt = s.link.runt := by
  obtain ⟨_, _, _, _, _, h⟩ := raiseEvent_shape k b a s
  rw [h]
@[simp] theorem raiseEvent_link_broken (k : EventKind) (b : Byte) (a : Word) (s : State) : (raiseEvent k b a s).link.broken = s.link.broken := by
  obtain ⟨_, _, _, _, _, h⟩ := raiseEvent_shape k b a s
  rw [h]
@[simp] theorem raiseEvent_link_dupTimer (k : EventKind) (b : Byte) (a : Word) (s : State) : (raiseEvent k b a s).link.dupTimer = s.link.dupTimer := by
  obtain ⟨_, _, _, _, _, h⟩ := raiseEvent_shape k b a s
  rw [h]
@[simp] theorem raiseEvent_link_held (k : EventKind) (b : Byte) (a : Word) (s : State) : (raiseEvent k b a s).link.held = s.link.held := by
  obtain ⟨_, _, _, _, _, h⟩ := raiseEvent_shape k b a s
  rw [h]
@[simp] theorem raiseEvent_tablet_linkUp (k : EventKind) (b : Byte) (a : Word) (s : State) : (raiseEvent k b a s).tablet.linkUp = s.tablet.linkUp := by
  obtain ⟨_, _, _, _, _, h⟩ := raiseEvent_shape k b a s
  rw [h]
@[simp] theorem raiseEvent_tablet_rx (k : EventKind) (b : Byte) (a : Word) (s : State) : (raiseEvent k b a s).tablet.rx = s.tablet.rx := by
  obtain ⟨_, _, _, _, _, h⟩ := raiseEvent_shape k b a s
  rw [h]
@[simp] theorem raiseEvent_tablet_badCount (k : EventKind) (b : Byte) (a : Word) (s : State) : (raiseEvent k b a s).tablet.badCount = s.tablet.badCount := by
  obtain ⟨_, _, _, _, _, h⟩ := raiseEvent_shape k b a s
  rw [h]
@[simp] theorem raiseEvent_tablet_relays (k : EventKind) (b : Byte) (a : Word) (s : State) : (raiseEvent k b a s).tablet.relays = s.tablet.relays := by
  obtain ⟨_, _, _, _, _, h⟩ := raiseEvent_shape k b a s
  rw [h]
@[simp] theorem raiseEvent_tablet_nextRelay (k : EventKind) (b : Byte) (a : Word) (s : State) : (raiseEvent k b a s).tablet.nextRelay = s.tablet.nextRelay := by
  obtain ⟨_, _, _, _, _, h⟩ := raiseEvent_shape k b a s
  rw [h]
@[simp] theorem raiseEvent_tablet_route (k : EventKind) (b : Byte) (a : Word) (s : State) : (raiseEvent k b a s).tablet.route = s.tablet.route := by
  obtain ⟨_, _, _, _, _, h⟩ := raiseEvent_shape k b a s
  rw [h]
@[simp] theorem raiseEvent_tablet_mask (k : EventKind) (b : Byte) (a : Word) (s : State) : (raiseEvent k b a s).tablet.mask = s.tablet.mask := by
  obtain ⟨_, _, _, _, _, h⟩ := raiseEvent_shape k b a s
  rw [h]
@[simp] theorem raiseEvent_tablet_restart (k : EventKind) (b : Byte) (a : Word) (s : State) : (raiseEvent k b a s).tablet.restart = s.tablet.restart := by
  obtain ⟨_, _, _, _, _, h⟩ := raiseEvent_shape k b a s
  rw [h]

@[simp] theorem answer_inReset (x : ReqCtx) (c : Result) (d : List Byte) (s : State) : (answer x c d s).inReset = s.inReset := by
  obtain ⟨_, _, _, _, _, h⟩ := answer_shape x c d s
  rw [h]
@[simp] theorem answer_straps (x : ReqCtx) (c : Result) (d : List Byte) (s : State) : (answer x c d s).straps = s.straps := by
  obtain ⟨_, _, _, _, _, h⟩ := answer_shape x c d s
  rw [h]
@[simp] theorem answer_publish (x : ReqCtx) (c : Result) (d : List Byte) (s : State) : (answer x c d s).publish = s.publish := by
  obtain ⟨_, _, _, _, _, h⟩ := answer_shape x c d s
  rw [h]
@[simp] theorem answer_listen (x : ReqCtx) (c : Result) (d : List Byte) (s : State) : (answer x c d s).listen = s.listen := by
  obtain ⟨_, _, _, _, _, h⟩ := answer_shape x c d s
  rw [h]
@[simp] theorem answer_cue (x : ReqCtx) (c : Result) (d : List Byte) (s : State) : (answer x c d s).cue = s.cue := by
  obtain ⟨_, _, _, _, _, h⟩ := answer_shape x c d s
  rw [h]
@[simp] theorem answer_chans (x : ReqCtx) (c : Result) (d : List Byte) (s : State) : (answer x c d s).chans = s.chans := by
  obtain ⟨_, _, _, _, _, h⟩ := answer_shape x c d s
  rw [h]
@[simp] theorem answer_ports (x : ReqCtx) (c : Result) (d : List Byte) (s : State) : (answer x c d s).ports = s.ports := by
  obtain ⟨_, _, _, _, _, h⟩ := answer_shape x c d s
  rw [h]
@[simp] theorem answer_watches (x : ReqCtx) (c : Result) (d : List Byte) (s : State) : (answer x c d s).watches = s.watches := by
  obtain ⟨_, _, _, _, _, h⟩ := answer_shape x c d s
  rw [h]
@[simp] theorem answer_sound (x : ReqCtx) (c : Result) (d : List Byte) (s : State) : (answer x c d s).sound = s.sound := by
  obtain ⟨_, _, _, _, _, h⟩ := answer_shape x c d s
  rw [h]
@[simp] theorem answer_supply (x : ReqCtx) (c : Result) (d : List Byte) (s : State) : (answer x c d s).supply = s.supply := by
  obtain ⟨_, _, _, _, _, h⟩ := answer_shape x c d s
  rw [h]
@[simp] theorem answer_fault (x : ReqCtx) (c : Result) (d : List Byte) (s : State) : (answer x c d s).fault = s.fault := by
  obtain ⟨_, _, _, _, _, h⟩ := answer_shape x c d s
  rw [h]
@[simp] theorem answer_pending (x : ReqCtx) (c : Result) (d : List Byte) (s : State) : (answer x c d s).pending = s.pending := by
  obtain ⟨_, _, _, _, _, h⟩ := answer_shape x c d s
  rw [h]
@[simp] theorem answer_link_own (x : ReqCtx) (c : Result) (d : List Byte) (s : State) : (answer x c d s).link.own = s.link.own := by
  obtain ⟨_, _, _, _, _, h⟩ := answer_shape x c d s
  rw [h]
@[simp] theorem answer_link_rate (x : ReqCtx) (c : Result) (d : List Byte) (s : State) : (answer x c d s).link.rate = s.link.rate := by
  obtain ⟨_, _, _, _, _, h⟩ := answer_shape x c d s
  rw [h]
@[simp] theorem answer_link_rxBroken (x : ReqCtx) (c : Result) (d : List Byte) (s : State) : (answer x c d s).link.rxBroken = s.link.rxBroken := by
  obtain ⟨_, _, _, _, _, h⟩ := answer_shape x c d s
  rw [h]
@[simp] theorem answer_link_driving (x : ReqCtx) (c : Result) (d : List Byte) (s : State) : (answer x c d s).link.driving = s.link.driving := by
  obtain ⟨_, _, _, _, _, h⟩ := answer_shape x c d s
  rw [h]
@[simp] theorem answer_link_rxHeld (x : ReqCtx) (c : Result) (d : List Byte) (s : State) : (answer x c d s).link.rxHeld = s.link.rxHeld := by
  obtain ⟨_, _, _, _, _, h⟩ := answer_shape x c d s
  rw [h]
@[simp] theorem answer_link_roster (x : ReqCtx) (c : Result) (d : List Byte) (s : State) : (answer x c d s).link.roster = s.link.roster := by
  obtain ⟨_, _, _, _, _, h⟩ := answer_shape x c d s
  rw [h]
@[simp] theorem answer_link_delivered (x : ReqCtx) (c : Result) (d : List Byte) (s : State) : (answer x c d s).link.delivered = s.link.delivered := by
  obtain ⟨_, _, _, _, _, h⟩ := answer_shape x c d s
  rw [h]
@[simp] theorem answer_link_spoiled (x : ReqCtx) (c : Result) (d : List Byte) (s : State) : (answer x c d s).link.spoiled = s.link.spoiled := by
  obtain ⟨_, _, _, _, _, h⟩ := answer_shape x c d s
  rw [h]
@[simp] theorem answer_link_runt (x : ReqCtx) (c : Result) (d : List Byte) (s : State) : (answer x c d s).link.runt = s.link.runt := by
  obtain ⟨_, _, _, _, _, h⟩ := answer_shape x c d s
  rw [h]
@[simp] theorem answer_link_broken (x : ReqCtx) (c : Result) (d : List Byte) (s : State) : (answer x c d s).link.broken = s.link.broken := by
  obtain ⟨_, _, _, _, _, h⟩ := answer_shape x c d s
  rw [h]
@[simp] theorem answer_link_dupTimer (x : ReqCtx) (c : Result) (d : List Byte) (s : State) : (answer x c d s).link.dupTimer = s.link.dupTimer := by
  obtain ⟨_, _, _, _, _, h⟩ := answer_shape x c d s
  rw [h]
@[simp] theorem answer_link_held (x : ReqCtx) (c : Result) (d : List Byte) (s : State) : (answer x c d s).link.held = s.link.held := by
  obtain ⟨_, _, _, _, _, h⟩ := answer_shape x c d s
  rw [h]
@[simp] theorem answer_tablet_linkUp (x : ReqCtx) (c : Result) (d : List Byte) (s : State) : (answer x c d s).tablet.linkUp = s.tablet.linkUp := by
  obtain ⟨_, _, _, _, _, h⟩ := answer_shape x c d s
  rw [h]
@[simp] theorem answer_tablet_rx (x : ReqCtx) (c : Result) (d : List Byte) (s : State) : (answer x c d s).tablet.rx = s.tablet.rx := by
  obtain ⟨_, _, _, _, _, h⟩ := answer_shape x c d s
  rw [h]
@[simp] theorem answer_tablet_badCount (x : ReqCtx) (c : Result) (d : List Byte) (s : State) : (answer x c d s).tablet.badCount = s.tablet.badCount := by
  obtain ⟨_, _, _, _, _, h⟩ := answer_shape x c d s
  rw [h]
@[simp] theorem answer_tablet_relays (x : ReqCtx) (c : Result) (d : List Byte) (s : State) : (answer x c d s).tablet.relays = s.tablet.relays := by
  obtain ⟨_, _, _, _, _, h⟩ := answer_shape x c d s
  rw [h]
@[simp] theorem answer_tablet_nextRelay (x : ReqCtx) (c : Result) (d : List Byte) (s : State) : (answer x c d s).tablet.nextRelay = s.tablet.nextRelay := by
  obtain ⟨_, _, _, _, _, h⟩ := answer_shape x c d s
  rw [h]
@[simp] theorem answer_tablet_route (x : ReqCtx) (c : Result) (d : List Byte) (s : State) : (answer x c d s).tablet.route = s.tablet.route := by
  obtain ⟨_, _, _, _, _, h⟩ := answer_shape x c d s
  rw [h]
@[simp] theorem answer_tablet_mask (x : ReqCtx) (c : Result) (d : List Byte) (s : State) : (answer x c d s).tablet.mask = s.tablet.mask := by
  obtain ⟨_, _, _, _, _, h⟩ := answer_shape x c d s
  rw [h]
@[simp] theorem answer_tablet_restart (x : ReqCtx) (c : Result) (d : List Byte) (s : State) : (answer x c d s).tablet.restart = s.tablet.restart := by
  obtain ⟨_, _, _, _, _, h⟩ := answer_shape x c d s
  rw [h]

@[simp] theorem addLost_inReset (n : Nat) (s : State) : (addLost n s).inReset = s.inReset := rfl
@[simp] theorem addLost_straps (n : Nat) (s : State) : (addLost n s).straps = s.straps := rfl
@[simp] theorem addLost_link (n : Nat) (s : State) : (addLost n s).link = s.link := rfl
@[simp] theorem addLost_publish (n : Nat) (s : State) : (addLost n s).publish = s.publish := rfl
@[simp] theorem addLost_listen (n : Nat) (s : State) : (addLost n s).listen = s.listen := rfl
@[simp] theorem addLost_cue (n : Nat) (s : State) : (addLost n s).cue = s.cue := rfl
@[simp] theorem addLost_chans (n : Nat) (s : State) : (addLost n s).chans = s.chans := rfl
@[simp] theorem addLost_ports (n : Nat) (s : State) : (addLost n s).ports = s.ports := rfl
@[simp] theorem addLost_watches (n : Nat) (s : State) : (addLost n s).watches = s.watches := rfl
@[simp] theorem addLost_sound (n : Nat) (s : State) : (addLost n s).sound = s.sound := rfl
@[simp] theorem addLost_supply (n : Nat) (s : State) : (addLost n s).supply = s.supply := rfl
@[simp] theorem addLost_fault (n : Nat) (s : State) : (addLost n s).fault = s.fault := rfl
@[simp] theorem addLost_pending (n : Nat) (s : State) : (addLost n s).pending = s.pending := rfl
@[simp] theorem addLost_tablet_linkUp (n : Nat) (s : State) : (addLost n s).tablet.linkUp = s.tablet.linkUp := rfl
@[simp] theorem addLost_tablet_rx (n : Nat) (s : State) : (addLost n s).tablet.rx = s.tablet.rx := rfl
@[simp] theorem addLost_tablet_badCount (n : Nat) (s : State) : (addLost n s).tablet.badCount = s.tablet.badCount := rfl
@[simp] theorem addLost_tablet_relays (n : Nat) (s : State) : (addLost n s).tablet.relays = s.tablet.relays := rfl
@[simp] theorem addLost_tablet_nextRelay (n : Nat) (s : State) : (addLost n s).tablet.nextRelay = s.tablet.nextRelay := rfl
@[simp] theorem addLost_tablet_reports (n : Nat) (s : State) : (addLost n s).tablet.reports = s.tablet.reports := rfl
@[simp] theorem addLost_tablet_route (n : Nat) (s : State) : (addLost n s).tablet.route = s.tablet.route := rfl
@[simp] theorem addLost_tablet_mask (n : Nat) (s : State) : (addLost n s).tablet.mask = s.tablet.mask := rfl
@[simp] theorem addLost_tablet_restart (n : Nat) (s : State) : (addLost n s).tablet.restart = s.tablet.restart := rfl

/-! ## The tables read after an event or an answer -/

@[simp] theorem chan_raiseEvent (k : EventKind) (b : Byte) (a : Word) (s : State) (i : Fin 4) : (raiseEvent k b a s).chan i = s.chan i :=
  chan_of_chans (by simp) i
@[simp] theorem port_raiseEvent (k : EventKind) (b : Byte) (a : Word) (s : State) (i : Fin 4) : (raiseEvent k b a s).port i = s.port i :=
  port_of_ports (by simp) i
@[simp] theorem watch_raiseEvent (k : EventKind) (b : Byte) (a : Word) (s : State) (i : Fin 8) : (raiseEvent k b a s).watch i = s.watch i :=
  watch_of_watches (by simp) i
@[simp] theorem entry_raiseEvent (k : EventKind) (b : Byte) (a : Word) (s : State) (i : Fin 16) : (raiseEvent k b a s).entry i = s.entry i :=
  entry_of_listen (by simp) i
@[simp] theorem source_raiseEvent (k : EventKind) (b : Byte) (a : Word) (s : State) (i : Fin 8) : (raiseEvent k b a s).source i = s.source i :=
  source_of_sources (by simp) i
@[simp] theorem standalone_raiseEvent (k : EventKind) (b : Byte) (a : Word) (s : State) : (raiseEvent k b a s).standalone = s.standalone := by
  simp [State.standalone]
@[simp] theorem ownByte_raiseEvent (k : EventKind) (b : Byte) (a : Word) (s : State) : (raiseEvent k b a s).ownByte = s.ownByte := by
  simp [State.ownByte]
@[simp] theorem chan_answer (x : ReqCtx) (c : Result) (d : List Byte) (s : State) (i : Fin 4) : (answer x c d s).chan i = s.chan i :=
  chan_of_chans (by simp) i
@[simp] theorem port_answer (x : ReqCtx) (c : Result) (d : List Byte) (s : State) (i : Fin 4) : (answer x c d s).port i = s.port i :=
  port_of_ports (by simp) i
@[simp] theorem watch_answer (x : ReqCtx) (c : Result) (d : List Byte) (s : State) (i : Fin 8) : (answer x c d s).watch i = s.watch i :=
  watch_of_watches (by simp) i
@[simp] theorem entry_answer (x : ReqCtx) (c : Result) (d : List Byte) (s : State) (i : Fin 16) : (answer x c d s).entry i = s.entry i :=
  entry_of_listen (by simp) i
@[simp] theorem source_answer (x : ReqCtx) (c : Result) (d : List Byte) (s : State) (i : Fin 8) : (answer x c d s).source i = s.source i :=
  source_of_sources (by simp) i
@[simp] theorem standalone_answer (x : ReqCtx) (c : Result) (d : List Byte) (s : State) : (answer x c d s).standalone = s.standalone := by
  simp [State.standalone]
@[simp] theorem ownByte_answer (x : ReqCtx) (c : Result) (d : List Byte) (s : State) : (answer x c d s).ownByte = s.ownByte := by
  simp [State.ownByte]

/-! ## The lost count a dropped record leaves -/

/-- A count that stays at its largest value never passes it. -/
theorem satAdd_le (cap a b : Nat) : satAdd cap a b ≤ cap := Nat.min_le_left _ _

/-- A record placed with at least one spare segment leaves a free segment behind it. -/
theorem placeRecord_leaves_segment {n c : Nat} {b : List Byte} {s : State} (hn : 1 ≤ n)
    (h : usedSegments s.tablet.reports ≤ 47) : usedSegments (placeRecord n c b s).tablet.reports ≤ 47 := by
  unfold placeRecord
  split
  · rename_i hp
    simp only [freeSegments, usedSegments, List.map_append, List.sum_append, List.map_cons, List.map_nil, List.sum_cons,
      List.sum_nil] at hp h ⊢
    omega
  · simpa using h

end Sys2Proof.Machine
end

