-- ==== Sys2Proof/Laws/PerInstr.lean ====
section
/-! SUPPORT. Per command: a row that executes a request is that request's own row, and is well formed as the request is; a
row that executes none is no request's row. -/

namespace Sys2Proof.Laws

/-- A command that executes a request is the row of that request, with the same well-formedness; one that executes none is
the row of no request. -/
def Carried.Statement (i : Instr) : Prop :=
  (∀ h r, i.request = some (h, r) → r.instr h = i ∧ r.wf = i.wf) ∧
  (i.request = none → ∀ (h : ReqCtx) (r : Request), r.instr h ≠ i)

theorem Carried.coldReset : Carried.Statement (.coldReset) :=
  ⟨nofun, fun _ _ r => by cases r <;> nofun⟩

theorem Carried.resetEnd (straps : Straps) (battery : Nat) (temperature : Int) (linkUp : Bool) : Carried.Statement (.resetEnd straps battery temperature linkUp) :=
  ⟨nofun, fun _ _ r => by cases r <;> nofun⟩

theorem Carried.quietGapEnd : Carried.Statement (.quietGapEnd) :=
  ⟨nofun, fun _ _ r => by cases r <;> nofun⟩

theorem Carried.contentionLoss : Carried.Statement (.contentionLoss) :=
  ⟨nofun, fun _ _ r => by cases r <;> nofun⟩

theorem Carried.bitClash : Carried.Statement (.bitClash) :=
  ⟨nofun, fun _ _ r => by cases r <;> nofun⟩

theorem Carried.frameBroken (at' : BrokenAt) : Carried.Statement (.frameBroken at') :=
  ⟨nofun, fun _ _ r => by cases r <;> nofun⟩

theorem Carried.verdict (rx : RxFrame) : Carried.Statement (.verdict rx) :=
  ⟨nofun, fun _ _ r => by cases r <;> nofun⟩

theorem Carried.frameDelivered : Carried.Statement (.frameDelivered) :=
  ⟨nofun, fun _ _ r => by cases r <;> nofun⟩

theorem Carried.frameSpoiled : Carried.Statement (.frameSpoiled) :=
  ⟨nofun, fun _ _ r => by cases r <;> nofun⟩

theorem Carried.lineStuck : Carried.Statement (.lineStuck) :=
  ⟨nofun, fun _ _ r => by cases r <;> nofun⟩

theorem Carried.stationSilenceExpiry (station : BitVec 4) : Carried.Statement (.stationSilenceExpiry station) :=
  ⟨nofun, fun _ _ r => by cases r <;> nofun⟩

theorem Carried.duplicateSuppressionExpiry : Carried.Statement (.duplicateSuppressionExpiry) :=
  ⟨nofun, fun _ _ r => by cases r <;> nofun⟩

theorem Carried.publishTimerExpiry : Carried.Statement (.publishTimerExpiry) :=
  ⟨nofun, fun _ _ r => by cases r <;> nofun⟩

theorem Carried.ageTimerExpiry (entry : Fin 16) : Carried.Statement (.ageTimerExpiry entry) :=
  ⟨nofun, fun _ _ r => by cases r <;> nofun⟩

theorem Carried.controlPeriodExpiry (ch : Fin 4) (current : Nat) : Carried.Statement (.controlPeriodExpiry ch current) :=
  ⟨nofun, fun _ _ r => by cases r <;> nofun⟩

theorem Carried.encoderTransition (ch : Fin 4) (line1 line2 : Bool) : Carried.Statement (.encoderTransition ch line1 line2) :=
  ⟨nofun, fun _ _ r => by cases r <;> nofun⟩

theorem Carried.pwmWrap (ch : Fin 4) : Carried.Statement (.pwmWrap ch) :=
  ⟨nofun, fun _ _ r => by cases r <;> nofun⟩

theorem Carried.detectSample (port : Fin 4) (mv : Nat) : Carried.Statement (.detectSample port mv) :=
  ⟨nofun, fun _ _ r => by cases r <;> nofun⟩

theorem Carried.analogSample (port : Fin 4) (mv : Nat) : Carried.Statement (.analogSample port mv) :=
  ⟨nofun, fun _ _ r => by cases r <;> nofun⟩

theorem Carried.rateMeasurement (port : Fin 4) (ns : Nat) : Carried.Statement (.rateMeasurement port ns) :=
  ⟨nofun, fun _ _ r => by cases r <;> nofun⟩

theorem Carried.rateMeasurementTimeout (port : Fin 4) : Carried.Statement (.rateMeasurementTimeout port) :=
  ⟨nofun, fun _ _ r => by cases r <;> nofun⟩

theorem Carried.acknowledgeSent (port : Fin 4) : Carried.Statement (.acknowledgeSent port) :=
  ⟨nofun, fun _ _ r => by cases r <;> nofun⟩

theorem Carried.sensorMessageReceived (port : Fin 4) (m : SensorMsg) : Carried.Statement (.sensorMessageReceived port m) :=
  ⟨nofun, fun _ _ r => by cases r <;> nofun⟩

theorem Carried.sensorGapTimeout (port : Fin 4) : Carried.Statement (.sensorGapTimeout port) :=
  ⟨nofun, fun _ _ r => by cases r <;> nofun⟩

theorem Carried.sensorMessageSent (port : Fin 4) : Carried.Statement (.sensorMessageSent port) :=
  ⟨nofun, fun _ _ r => by cases r <;> nofun⟩

theorem Carried.descriptionTimerExpiry (port : Fin 4) : Carried.Statement (.descriptionTimerExpiry port) :=
  ⟨nofun, fun _ _ r => by cases r <;> nofun⟩

theorem Carried.silenceTimerExpiry (port : Fin 4) : Carried.Statement (.silenceTimerExpiry port) :=
  ⟨nofun, fun _ _ r => by cases r <;> nofun⟩

theorem Carried.switchTimerExpiry (port : Fin 4) : Carried.Statement (.switchTimerExpiry port) :=
  ⟨nofun, fun _ _ r => by cases r <;> nofun⟩

theorem Carried.nudgeTimerExpiry (port : Fin 4) : Carried.Statement (.nudgeTimerExpiry port) :=
  ⟨nofun, fun _ _ r => by cases r <;> nofun⟩

theorem Carried.sampleClock : Carried.Statement (.sampleClock) :=
  ⟨nofun, fun _ _ r => by cases r <;> nofun⟩

theorem Carried.speakerPwmWrap : Carried.Statement (.speakerPwmWrap) :=
  ⟨nofun, fun _ _ r => by cases r <;> nofun⟩

theorem Carried.supplySample (mv : Nat) : Carried.Statement (.supplySample mv) :=
  ⟨nofun, fun _ _ r => by cases r <;> nofun⟩

theorem Carried.temperatureReading (deg : Int) : Carried.Statement (.temperatureReading deg) :=
  ⟨nofun, fun _ _ r => by cases r <;> nofun⟩

theorem Carried.graceTimerExpiry (source : Fin 8) : Carried.Statement (.graceTimerExpiry source) :=
  ⟨nofun, fun _ _ r => by cases r <;> nofun⟩

theorem Carried.keepaliveTimerExpiry : Carried.Statement (.keepaliveTimerExpiry) :=
  ⟨nofun, fun _ _ r => by cases r <;> nofun⟩

theorem Carried.tabletMessage (bytes : List LineByte) : Carried.Statement (.tabletMessage bytes) :=
  ⟨nofun, fun _ _ r => by cases r <;> nofun⟩

theorem Carried.tabletGapTimeout : Carried.Statement (.tabletGapTimeout) :=
  ⟨nofun, fun _ _ r => by cases r <;> nofun⟩

theorem Carried.recordSent : Carried.Statement (.recordSent) :=
  ⟨nofun, fun _ _ r => by cases r <;> nofun⟩

theorem Carried.deadlineTimerExpiry (entry : Nat) : Carried.Statement (.deadlineTimerExpiry entry) :=
  ⟨nofun, fun _ _ r => by cases r <;> nofun⟩

theorem Carried.linkUpFall : Carried.Statement (.linkUpFall) :=
  ⟨nofun, fun _ _ r => by cases r <;> nofun⟩

theorem Carried.linkUpRise : Carried.Statement (.linkUpRise) :=
  ⟨nofun, fun _ _ r => by cases r <;> nofun⟩

theorem Carried.restartDone : Carried.Statement (.restartDone) :=
  ⟨nofun, fun _ _ r => by cases r <;> nofun⟩

theorem Carried.setMotor (h : ReqCtx) (ch mode : Byte) (value : Word) (cue : Byte) (keep : Bool) : Carried.Statement (.setMotor h ch mode value cue keep) :=
  ⟨by rintro _ _ ⟨⟩; exact ⟨rfl, rfl⟩, nofun⟩

theorem Carried.setFollow (h : ReqCtx) (ch : Byte) (f : RawFollow) (cue : Byte) (keep : Bool) : Carried.Statement (.setFollow h ch f cue keep) :=
  ⟨by rintro _ _ ⟨⟩; exact ⟨rfl, rfl⟩, nofun⟩

theorem Carried.configMotor (h : ReqCtx) (ch kind : Byte) (p : RawParams) : Carried.Statement (.configMotor h ch kind p) :=
  ⟨by rintro _ _ ⟨⟩; exact ⟨rfl, rfl⟩, nofun⟩

theorem Carried.resetPosition (h : ReqCtx) (ch : Byte) (value : Word) : Carried.Statement (.resetPosition h ch value) :=
  ⟨by rintro _ _ ⟨⟩; exact ⟨rfl, rfl⟩, nofun⟩

theorem Carried.setPublish (h : ReqCtx) (period : Half) (items : List Byte) : Carried.Statement (.setPublish h period items) :=
  ⟨by rintro _ _ ⟨⟩; exact ⟨rfl, rfl⟩, nofun⟩

theorem Carried.setListen (h : ReqCtx) (index source item : Byte) (limit : Half) : Carried.Statement (.setListen h index source item limit) :=
  ⟨by rintro _ _ ⟨⟩; exact ⟨rfl, rfl⟩, nofun⟩

theorem Carried.dropListen (h : ReqCtx) (index : Byte) : Carried.Statement (.dropListen h index) :=
  ⟨by rintro _ _ ⟨⟩; exact ⟨rfl, rfl⟩, nofun⟩

theorem Carried.joinGroups (h : ReqCtx) (mask : Byte) : Carried.Statement (.joinGroups h mask) :=
  ⟨by rintro _ _ ⟨⟩; exact ⟨rfl, rfl⟩, nofun⟩

theorem Carried.sendCue (h : ReqCtx) (mask cue : Byte) : Carried.Statement (.sendCue h mask cue) :=
  ⟨by rintro _ _ ⟨⟩; exact ⟨rfl, rfl⟩, nofun⟩

theorem Carried.dropCues (h : ReqCtx) (cue : Byte) : Carried.Statement (.dropCues h cue) :=
  ⟨by rintro _ _ ⟨⟩; exact ⟨rfl, rfl⟩, nofun⟩

theorem Carried.listCues (h : ReqCtx) (filter : Byte) : Carried.Statement (.listCues h filter) :=
  ⟨by rintro _ _ ⟨⟩; exact ⟨rfl, rfl⟩, nofun⟩

theorem Carried.stageSnapshot (h : ReqCtx) (cue : Byte) (keep : Bool) : Carried.Statement (.stageSnapshot h cue keep) :=
  ⟨by rintro _ _ ⟨⟩; exact ⟨rfl, rfl⟩, nofun⟩

theorem Carried.stageRearm (h : ReqCtx) (cue : Byte) (keep : Bool) : Carried.Statement (.stageRearm h cue keep) :=
  ⟨by rintro _ _ ⟨⟩; exact ⟨rfl, rfl⟩, nofun⟩

theorem Carried.setSensorMode (h : ReqCtx) (port mode : Byte) : Carried.Statement (.setSensorMode h port mode) :=
  ⟨by rintro _ _ ⟨⟩; exact ⟨rfl, rfl⟩, nofun⟩

theorem Carried.portReset (h : ReqCtx) (port : Byte) : Carried.Statement (.portReset h port) :=
  ⟨by rintro _ _ ⟨⟩; exact ⟨rfl, rfl⟩, nofun⟩

theorem Carried.setWatch (h : ReqCtx) (index : Byte) (w : RawWatch) : Carried.Statement (.setWatch h index w) :=
  ⟨by rintro _ _ ⟨⟩; exact ⟨rfl, rfl⟩, nofun⟩

theorem Carried.clearWatch (h : ReqCtx) (index : Byte) : Carried.Statement (.clearWatch h index) :=
  ⟨by rintro _ _ ⟨⟩; exact ⟨rfl, rfl⟩, nofun⟩

theorem Carried.rearm (h : ReqCtx) (index : Byte) : Carried.Statement (.rearm h index) :=
  ⟨by rintro _ _ ⟨⟩; exact ⟨rfl, rfl⟩, nofun⟩

theorem Carried.queueNotes (h : ReqCtx) (start : RawStart) (notes : List RawNote) : Carried.Statement (.queueNotes h start notes) :=
  ⟨by rintro _ _ ⟨⟩; exact ⟨rfl, rfl⟩, nofun⟩

theorem Carried.startSound (h : ReqCtx) (cue : Byte) (keep : Bool) : Carried.Statement (.startSound h cue keep) :=
  ⟨by rintro _ _ ⟨⟩; exact ⟨rfl, rfl⟩, nofun⟩

theorem Carried.stopSound (h : ReqCtx) (arg cue : Byte) (keep : Bool) : Carried.Statement (.stopSound h arg cue keep) :=
  ⟨by rintro _ _ ⟨⟩; exact ⟨rfl, rfl⟩, nofun⟩

theorem Carried.clearSound (h : ReqCtx) : Carried.Statement (.clearSound h) :=
  ⟨by rintro _ _ ⟨⟩; exact ⟨rfl, rfl⟩, nofun⟩

theorem Carried.setVolume (h : ReqCtx) (master mark : Byte) : Carried.Statement (.setVolume h master mark) :=
  ⟨by rintro _ _ ⟨⟩; exact ⟨rfl, rfl⟩, nofun⟩

theorem Carried.configFault (h : ReqCtx) (source reaction : Byte) (grace : Half) (style form mask : Byte) : Carried.Statement (.configFault h source reaction grace style form mask) :=
  ⟨by rintro _ _ ⟨⟩; exact ⟨rfl, rfl⟩, nofun⟩

theorem Carried.halt (h : ReqCtx) (reaction style form mask : Byte) : Carried.Statement (.halt h reaction style form mask) :=
  ⟨by rintro _ _ ⟨⟩; exact ⟨rfl, rfl⟩, nofun⟩

theorem Carried.clearFault (h : ReqCtx) : Carried.Statement (.clearFault h) :=
  ⟨by rintro _ _ ⟨⟩; exact ⟨rfl, rfl⟩, nofun⟩

theorem Carried.setKeepalive (h : ReqCtx) (period : Half) : Carried.Statement (.setKeepalive h period) :=
  ⟨by rintro _ _ ⟨⟩; exact ⟨rfl, rfl⟩, nofun⟩

theorem Carried.setEventMask (h : ReqCtx) (mask : Word) : Carried.Statement (.setEventMask h mask) :=
  ⟨by rintro _ _ ⟨⟩; exact ⟨rfl, rfl⟩, nofun⟩

theorem Carried.readStatus (h : ReqCtx) (sect : Byte) : Carried.Statement (.readStatus h sect) :=
  ⟨by rintro _ _ ⟨⟩; exact ⟨rfl, rfl⟩, nofun⟩

theorem Carried.restart (h : ReqCtx) : Carried.Statement (.restart h) :=
  ⟨by rintro _ _ ⟨⟩; exact ⟨rfl, rfl⟩, nofun⟩

theorem Carried.startBitSeen : Carried.Statement (.startBitSeen) :=
  ⟨nofun, fun _ _ r => by cases r <;> nofun⟩

theorem Carried.lengthAbove40Read (len : Byte) : Carried.Statement (.lengthAbove40Read len) :=
  ⟨nofun, fun _ _ r => by cases r <;> nofun⟩

theorem Carried.firstFallingEdge (port : Fin 4) : Carried.Statement (.firstFallingEdge port) :=
  ⟨nofun, fun _ _ r => by cases r <;> nofun⟩

theorem Carried.tabletBadMessage : Carried.Statement (.tabletBadMessage) :=
  ⟨nofun, fun _ _ r => by cases r <;> nofun⟩

end Sys2Proof.Laws
end

