-- ==== Sys2Proof/Laws/Units.lean ====
section
/-! SUPPORT. What the operations that units call in one another leave untouched: one lemma for each, over one relation; and what
the tests of an expiry, the foldback, the characters and bytes of the lines and the speaker driver answer. -/

namespace Sys2Proof.Machine

/-- What a unit's reaction, whatever it is, leaves as it was: the reset and the straps, the publication unit, the listen
table, the supply monitor, the queue of commands, the station's identity, and the tablet port but for its records. -/
structure Keeps (s t : State) : Prop where
  inReset : t.inReset = s.inReset
  straps : t.straps = s.straps
  publish : t.publish = s.publish
  listen : t.listen = s.listen
  supply : t.supply = s.supply
  pending : t.pending = s.pending
  own : t.link.own = s.link.own
  rate : t.link.rate = s.link.rate
  linkUp : t.tablet.linkUp = s.tablet.linkUp
  rx : t.tablet.rx = s.tablet.rx
  relays : t.tablet.relays = s.tablet.relays
  nextRelay : t.tablet.nextRelay = s.tablet.nextRelay
  route : t.tablet.route = s.tablet.route
  mask : t.tablet.mask = s.tablet.mask
  restart : t.tablet.restart = s.tablet.restart

theorem Keeps.refl (s : State) : Keeps s s := by constructor <;> rfl

theorem Keeps.trans {s t u : State} (a : Keeps s t) (b : Keeps t u) : Keeps s u := by
  constructor
  exacts [b.inReset.trans a.inReset, b.straps.trans a.straps, b.publish.trans a.publish, b.listen.trans a.listen,
    b.supply.trans a.supply, b.pending.trans a.pending, b.own.trans a.own, b.rate.trans a.rate, b.linkUp.trans a.linkUp,
    b.rx.trans a.rx, b.relays.trans a.relays, b.nextRelay.trans a.nextRelay, b.route.trans a.route, b.mask.trans a.mask,
    b.restart.trans a.restart]

/-! ## Work done for each element of a list -/

/-- A property that one element's work keeps is kept by all of it. -/
theorem forEach_induct {α : Type} {P : State → Prop} {f : α → State → State} (l : List α)
    (h : ∀ a ∈ l, ∀ s, P s → P (f a s)) {s : State} (hs : P s) : P (forEach l f s) := by
  induction l generalizing s with
  | nil => exact hs
  | cons a l ih =>
    exact ih (fun b hb => h b (List.mem_cons_of_mem a hb)) (h a List.mem_cons_self s hs)

/-- A part of the state that one element's work leaves is left by all of it. -/
theorem forEach_frame {α β : Type} (g : State → β) {f : α → State → State} (l : List α)
    (h : ∀ a s, g (f a s) = g s) (s : State) : g (forEach l f s) = g s :=
  forEach_induct (P := fun t => g t = g s) l (fun a _ t ht => (h a t).trans ht) rfl

theorem Keeps.forEach {α : Type} {f : α → State → State} (l : List α) (h : ∀ a s, Keeps s (f a s)) (s : State) :
    Keeps s (forEach l f s) :=
  forEach_induct (P := Keeps s) l (fun a _ t ht => ht.trans (h a t)) (Keeps.refl s)

/-- The same change of every channel is one update of the state. -/
theorem forEach_modChan (f : Channel → Channel) (s : State) :
    forEach all4 (fun c t => t.modChan c f) s = { s with chans := Vector.ofFn fun c => f (s.chan c) } := by
  have h : (forEach all4 (fun c t => t.modChan c f) s).chans = Vector.ofFn fun c => f (s.chan c) := by
    ext i hi
    have hc (j : Fin 4) : (forEach all4 (fun c t => t.modChan c f) s).chan j = f (s.chan j) := by
      fin_cases j <;> simp [forEach, all4, chan_modChan]
    simpa [State.chan, Vector.get_eq_getElem] using hc ⟨i, hi⟩
  rw [← h]
  rfl

/-! ## The shared operations -/

theorem raiseEvent_keeps (k : EventKind) (b : Byte) (a : Word) (s : State) : Keeps s (raiseEvent k b a s) := by
  constructor <;> simp

theorem answer_keeps (x : ReqCtx) (c : Result) (d : List Byte) (s : State) : Keeps s (answer x c d s) := by
  constructor <;> simp

theorem offer_keeps (o : FrameOwner) (p : List Byte) (s : State) : Keeps s (offer o p s).1 := by
  constructor <;> simp

theorem modChan_keeps (c : Fin 4) (f : Channel → Channel) (s : State) : Keeps s (s.modChan c f) := by
  constructor <;> rfl

theorem setWatch_keeps (k : Fin 8) (w : Option Watch) (s : State) : Keeps s (s.setWatch k w) := by
  constructor <;> rfl

theorem setSource_keeps (k : Fin 8) (x : FaultSource) (s : State) : Keeps s (s.setSource k x) := by
  constructor <;> rfl

theorem withSound_keeps (x : Sound) (s : State) : Keeps s (s.withSound x) := by constructor <;> rfl

theorem withTable_keeps (t : List CueEntry) (s : State) : Keeps s (s.withTable t) := by constructor <;> rfl

/-! ## Faults -/

theorem haltChannel_keeps (c : Fin 4) (st : Style) (s : State) : Keeps s (haltChannel c st s) := modChan_keeps c _ s

/-- All that a halt of the station does (R149). -/
theorem haltStation_eq (st : Style) (s : State) :
    haltStation st s = { s with
      fault := { s.fault with halted := true }
      chans := Vector.ofFn fun c => { enterStop st (s.chan c) with haltFlag := true }
      sound := silence s.sound } := by
  unfold haltStation haltChannel
  simp only [forEach_modChan]
  rfl

theorem haltStation_keeps (st : Style) (s : State) : Keeps s (haltStation st s) :=
  Keeps.trans (t := { s with fault := { s.fault with halted := true } }) (by constructor <;> rfl)
    ((Keeps.forEach all4 (fun c t => haltChannel_keeps c st t) _).trans (withSound_keeps _ _))

theorem react_keeps (cause : Byte) (c : Option (Fin 4)) (r : Reaction) (st : Style) (g : HaltGroups) (s : State) :
    Keeps s (react cause c r st g s) := by
  unfold react
  split
  · exact .refl s
  · exact .refl s
  · split
    · exact haltChannel_keeps _ st s
    · exact .refl s
  · exact haltStation_keeps st s
  · exact (haltStation_keeps st s).trans (offer_keeps _ _ _)

theorem sourceEvent_keeps (e : EventKind) (k : Fin 8) (a : Word) (s : State) : Keeps s (sourceEvent e k a s) := by
  unfold sourceEvent
  split
  · exact .refl s
  · exact raiseEvent_keeps _ _ _ s

theorem latch_keeps (k : Fin 8) (s : State) : Keeps s (latch k s) :=
  (setSource_keeps k _ s).trans ((sourceEvent_keeps _ k _ _).trans (react_keeps _ _ _ _ _ _))

theorem conditionBegin_keeps (k : Fin 8) (s : State) : Keeps s (conditionBegin k s) := by
  unfold conditionBegin
  simp only
  split
  · split
    · exact (setSource_keeps k _ s).trans ((setSource_keeps k _ _).trans (sourceEvent_keeps _ k _ _))
    · exact (setSource_keeps k _ s).trans (latch_keeps k _)
  · exact setSource_keeps k _ s

theorem conditionEnd_keeps (k : Fin 8) (s : State) : Keeps s (conditionEnd k s) := by
  unfold conditionEnd
  simp only
  split
  · exact (setSource_keeps k _ s).trans (sourceEvent_keeps _ k _ _)
  · exact setSource_keeps k _ s

/-- Telling a condition as it stands changes nothing: only a beginning or an end acts (R145, R147). -/
theorem tellCondition_same (k : Fin 8) (s : State) : tellCondition k (s.source k).condition s = s := by
  unfold tellCondition
  cases (s.source k).condition <;> rfl
theorem tellCondition_keeps (k : Fin 8) (b : Bool) (s : State) : Keeps s (tellCondition k b s) := by
  unfold tellCondition
  split
  · exact conditionBegin_keeps k s
  · exact conditionEnd_keeps k s
  · exact .refl s

/-! ## Sound -/

theorem takeNote_keeps (n : Note) (rest : List Note) (s : State) : Keeps s (takeNote n rest s) := by
  unfold takeNote
  simp only
  split
  · exact (withSound_keeps _ s).trans (raiseEvent_keeps _ _ _ _)
  · exact withSound_keeps _ s

theorem startAction_keeps (s : State) : Keeps s (startAction s) := by
  unfold startAction
  split
  · exact takeNote_keeps _ _ s
  · exact raiseEvent_keeps _ _ _ s
  · exact .refl s

/-! ## Watches let go, and cues -/

theorem releaseChannel_keeps (k : Fin 8) (c : Fin 4) (s : State) : Keeps s (releaseChannel k c s) := by
  unfold releaseChannel
  simp only
  split <;> constructor <;> rfl

theorem releaseHolds_keeps (k : Fin 8) (a : WatchAction) (s : State) : Keeps s (releaseHolds k a s) := by
  unfold releaseHolds
  split
  · exact Keeps.forEach _ (releaseChannel_keeps k) s
  · exact Keeps.forEach _ (releaseChannel_keeps k) s
  · split
    · exact .refl s
    · exact tellCondition_keeps _ _ s
  · exact .refl s

theorem rearmWatch_keeps (k : Fin 8) (w : Watch) (s : State) : Keeps s (rearmWatch k w s) := by
  unfold rearmWatch
  simp only
  split
  · exact (setWatch_keeps k _ s).trans (releaseHolds_keeps k _ _)
  · exact setWatch_keeps k _ s

theorem rearmIf_keeps (k : Fin 8) (s : State) : Keeps s (rearmIf k s) := by
  unfold rearmIf
  split
  · split
    · exact rearmWatch_keeps k _ s
    · exact .refl s
  · exact .refl s

theorem rearmAll_keeps (s : State) : Keeps s (rearmAll s) := Keeps.forEach all8 rearmIf_keeps s

theorem clearWatch_keeps (k : Fin 8) (s : State) : Keeps s (clearWatch k s) := by
  unfold clearWatch
  split
  · refine Keeps.trans (t := if _ then _ else _) ?_ (setWatch_keeps k none _)
    split
    · exact releaseHolds_keeps k _ s
    · exact .refl s
  · exact .refl s

theorem takeSnapshots_keeps (s : State) : Keeps s (takeSnapshots s) :=
  Keeps.forEach all4 (fun p t => by constructor <;> rfl) s

theorem applyAction_keeps {a : CueAction} {s t : State} (h : applyAction a s = .ok t) : Keeps s t := by
  unfold applyAction at h
  split at h
  · split at h
    · cases h
    · split at h
      · split at h
        · cases h
        · cases h; exact modChan_keeps _ _ s
      · cases h; exact modChan_keeps _ _ s
  · split at h
    · cases h
    · cases h; exact startAction_keeps s
  · split at h
    · cases h
    · cases h; exact withSound_keeps _ s
  · cases h; exact takeSnapshots_keeps s
  · cases h; exact rearmAll_keeps s

theorem applyEntries_keeps (n : Nat) (t : List CueEntry) (s : State) : Keeps s (applyEntries n t s).1 := by
  induction t generalizing s with
  | nil => exact .refl s
  | cons e es ih =>
    unfold applyEntries
    split
    · split
      · rename_i h; exact (applyAction_keeps h).trans (ih _)
      · exact (raiseEvent_keeps _ _ _ s).trans (ih _)
    · exact ih s

theorem takeCue_keeps (n : Nat) (s : State) : Keeps s (takeCue n s) :=
  (applyEntries_keeps n _ s).trans ((withTable_keeps _ _).trans (raiseEvent_keeps _ _ _ _))

theorem takeCueFrame_keeps (p : List Byte) (s : State) : Keeps s (takeCueFrame p s) := by
  unfold takeCueFrame
  split
  · split
    · exact takeCue_keeps _ s
    · exact .refl s
  · exact .refl s

/-! ## Watches evaluated -/

theorem watchCue_keeps (k : Fin 8) (m c : Byte) (s : State) : Keeps s (watchCue k m c s) := by
  unfold watchCue
  simp only
  split
  · exact takeCueFrame_keeps _ s
  · split
    · exact offer_keeps _ _ s
    · exact (offer_keeps _ _ s).trans (raiseEvent_keeps _ _ _ _)

theorem watchAct_keeps (k : Fin 8) (a : WatchAction) (s : State) : Keeps s (watchAct k a s) := by
  unfold watchAct
  split
  · exact .refl s
  · exact watchCue_keeps k _ _ s
  · exact withSound_keeps _ s
  · exact Keeps.forEach _ (fun c t => modChan_keeps c _ t) s
  · exact Keeps.forEach _ (fun c t => modChan_keeps c _ t) s
  · split
    · exact .refl s
    · exact tellCondition_keeps _ _ s

theorem watchFire_keeps (k : Fin 8) (w : Watch) (v : Word) (s : State) : Keeps s (watchFire k w v s) := by
  unfold watchFire
  split <;> exact (setWatch_keeps k _ s).trans ((raiseEvent_keeps _ _ _ _).trans (watchAct_keeps k _ _))

theorem evaluate_keeps (k : Fin 8) (w : Watch) (v : Word) (s : State) : Keeps s (evaluate k w v s) := by
  unfold evaluate
  split
  · split
    · exact watchFire_keeps k w v s
    · exact setWatch_keeps k _ s
  · split
    · split <;> exact setWatch_keeps k _ s
    · exact setWatch_keeps k _ s

theorem evaluateAt_keeps (u : Update) (k : Fin 8) (s : State) : Keeps s (evaluateAt u k s) := by
  unfold evaluateAt
  split
  · split
    · split
      · exact evaluate_keeps k _ _ s
      · exact .refl s
    · exact .refl s
  · exact .refl s

/-- An update handed to the watch unit leaves the unit that handed it alone. -/
theorem watchUpdate_keeps (u : Update) (s : State) : Keeps s (watchUpdate u s) := Keeps.forEach all8 (evaluateAt_keeps u) s

/-! ## Expiries: when a timer, a grace time or an age has run out -/

@[simp] theorem ranOut_eq_true (t : Option Nat) : ranOut t = true ↔ t = some 0 := by simp [ranOut]

@[simp] theorem ranOut_eq_false (t : Option Nat) : ranOut t = false ↔ t ≠ some 0 := by simp [ranOut]

theorem graceSpent_eq_true (f : FaultSource) :
    graceSpent f = true ↔ f.state = .grace ∧ ∃ n, f.timer = some n ∧ f.grace ≤ n := by
  rcases f with ⟨_, _, _, _, st, _, t⟩
  cases st <;> cases t <;> simp [graceSpent]

theorem limitReached_eq_true (e : ListenEntry) :
    limitReached e = true ↔ e.state = .fresh ∧ ∃ a, e.age = some a ∧ e.limit ≤ a := by
  rcases e with ⟨_, _, _, _, st, a⟩
  cases st <;> cases a <;> simp [limitReached]

/-- A current above Ilim never raises Leff, and no current leaves it above the ceiling (R88). -/
theorem foldback_bounds (i ceil : Nat) (ch : Channel) :
    foldback i ceil ch ≤ ceil ∧ (ch.params.ilim < i → foldback i ceil ch ≤ ch.leff) := by
  unfold foldback
  split <;> omega

/-! ## What stands on the lines and the speaker driver (R2, R6, R102, R137, R141, R155, R157) -/

@[simp] theorem LineChar.levels_length (c : LineChar) : c.levels.length = 11 := rfl

/-- What a sender puts on the line: as many characters as the payload has, and three more. -/
@[simp] theorem Frame.chars_length (f : Frame) : f.chars.length = f.payload.length + 3 := by simp [Frame.chars]

@[simp] theorem byteLevels_length (b : LineByte) : (byteLevels b).length = 10 := rfl

@[simp] theorem tabletLine_low {t : Tablet} (h : t.linkUp = false) : t.line = .idle := by simp [Tablet.line, h]

@[simp] theorem tabletLine_empty {t : Tablet} (h : t.reports = []) : t.line = .idle := by simp [Tablet.line, h]

/-- The tablet port sends nothing but its oldest record. -/
theorem tabletLine_head {t : Tablet} {body : List Byte} {rest : List (List Byte)} (h : t.linkUp = true)
    (hr : t.reports = body :: rest) : t.line = .sending 115200 (lineBytes body) := by simp [Tablet.line, h, hr]

@[simp] theorem portLine_idle {x : Port} (h : x.tx = []) : x.line = .idle := by
  unfold Port.line
  rw [h]
  cases x.fixedRate <;> rfl

@[simp] theorem speaker_in_reset {s : State} (h : s.inReset = true) : s.speaker = .off := by simp [State.speaker, h]

@[simp] theorem speaker_running {s : State} (h : s.inReset = false) : s.speaker = .pulse s.sound.runCompare := by
  simp [State.speaker, h]

end Sys2Proof.Machine
end

