-- ==== Sys2Proof/Tests/Slice0.lean ====
section
/-! SUPPORT. Tests: operands that the well-formedness checks refuse, request bodies written out from the body table, the spec's
worked examples and tables, and for each statement with hypotheses operands and a state that meet them. -/

namespace Sys2Proof.Tests

open Sys2Proof Sys2Proof.Machine

/-! ## Helpers -/

/-- The state an outcome leaves. -/
def after (o : Host.Outcome State Fault Refusal) : State :=
  match o with
  | .next t => t
  | .fault _ => State.reset
  | .refused _ => State.reset

/-- Station 5 after its reset, at 7200 mV and 20 degrees, LINK_UP high. -/
def up : State := after (exec (.resetEnd { stn := 5, rate := 1 } 7200 20 true) State.reset)

/-- A request from the serial line. -/
def ctx : ReqCtx := { tag := 7, station := 5, dest := .self }

def chanUp (f : Channel → Channel) : State := up.setChan 0 (f (up.chan 0))

def portUp (f : Port → Port) : State := up.setPort 0 (f (up.port 0))

def linkUp (f : Link → Link) : State := { up with link := f up.link }

def soundUp (f : Sound → Sound) : State := up.withSound (f up.sound)

def sourceUp (k : Fin 8) (f : FaultSource → FaultSource) : State := up.setSource k (f (up.source k))

def halted : State := haltStation .brake up

/-- A COMMAND frame of relay 0, a CUE frame and a PUBLISH frame of station 5. -/
def command : Frame := newFrame 5 (.command 0) [7, 9, 22]

def cue : Frame := newFrame 5 (.cueRequest ctx) [0, 3]

def publish : Frame := newFrame 5 .publish []

def contending (f : Frame) : Frame := { f with contending := true }

/-- A relay entry for station 9. -/
def entry (id : Nat) (st : RelayStatus) : Relay := { id := id, tag := 7, dest := 9, deadline := 100, status := st }

def note : Note := { frequency := 440, duration := 100, volume := 7, waveform := .square, gap := 1 }

def watch (st : WatchState) (a : WatchAction) (last : Bool) : Watch :=
  { state := st, subject := .supply, condition := .above, lo := 0, hi := 10, hysteresis := 2, action := a, lastEval := last }

/-- A mirror of station 9's battery voltage. -/
def mirror (st : MirrorState) : ListenEntry :=
  { source := 9, item := 0x50, limit := 100, value := 7200, state := st, age := if st = .fresh then some 0 else none }

/-! ## Well-formedness refuses ill-formed operands -/

theorem test_wf_verdict_length : (Instr.verdict { claim := 0, length := 41, payload := [], check := 0, stopLow := false }).wf =
    false := by decide

theorem test_wf_verdict_payload : (Instr.verdict { claim := 0, length := 2, payload := [1], check := 0, stopLow := false }).wf =
    false := by decide

theorem test_wf_sensor_body : (Instr.sensorMessageReceived 0 { header := 0x63, body := [1], check := 0, stopLow := false }).wf =
    false := by decide

theorem test_wf_ranges :
    (Instr.resetEnd { stn := 1, rate := 0 } 65536 20 true).wf = false ∧
    (Instr.resetEnd { stn := 1, rate := 0 } 7200 32768 true).wf = false ∧
    (Instr.stationSilenceExpiry 15).wf = false ∧ (Instr.controlPeriodExpiry 0 65536).wf = false ∧
    (Instr.detectSample 0 65536).wf = false ∧ (Instr.analogSample 0 65536).wf = false ∧
    (Instr.supplySample 65536).wf = false ∧ (Instr.temperatureReading (-32769)).wf = false ∧
    (Instr.deadlineTimerExpiry 8).wf = false ∧ (Instr.lengthAbove40Read 40).wf = false := by decide

theorem test_wf_lists :
    (Instr.tabletMessage []).wf = false ∧
    (Instr.tabletMessage (List.replicate 64 ⟨0xA5, false⟩)).wf = false ∧
    (Instr.tabletMessage [⟨0xA5, false⟩, ⟨1, true⟩]).wf = false ∧
    (Instr.setPublish ctx 10 (List.replicate 55 0x60)).wf = false ∧
    (Instr.queueNotes ctx { form := 0, keep := false, cue := 0 } (List.replicate 9
      { frequency := 0, duration := 0, volume := 0, waveform := 0, gap := 0 })).wf = false := by decide

/-! ## Request bodies written out from the body table of R174 -/

theorem test_decode_set_motor : decodeRequest 1 [2, 4, 0xFF, 0xFF, 0xFF, 0x38, 3, 1] =
    some (.setMotor 2 4 (BitVec.ofInt 32 (-200)) 3 true) := by decide

theorem test_decode_set_follow : decodeRequest 2 [3, 1, 2, 0, 0xFF, 0xFF, 0, 2, 0, 0, 0x13, 0x88, 0, 0] =
    some (.setFollow 3 { source := 1, which := 2, valueNumber := 0, numerator := 0xFFFF, denominator := 2, offset := 5000 }
      0 false) := by decide

theorem test_decode_set_publish : decodeRequest 5 [0, 100, 2, 0x10, 0x70] = some (.setPublish 100 [0x10, 0x70]) := by decide

theorem test_decode_join_groups : decodeRequest 8 [0x81] = some (.joinGroups 0x81) := by decide

theorem test_decode_sensor_mode : decodeRequest 14 [2, 1] = some (.setSensorMode 2 1) := by decide

theorem test_decode_set_watch : decodeRequest 16 [1, 5, 0, 0, 1, 0, 0, 0x14, 0x50, 0, 0, 0x1C, 0x20, 0, 100, 2, 0, 4] =
    some (.setWatch 1 { subject := 5, which := 0, valueNumber := 0, condition := 1, lo := 5200, hi := 7200, hysteresis := 100,
                        action := 2, mask := 0, cue := 4 }) := by decide

theorem test_decode_queue_notes : decodeRequest 19 [0xA3, 0x01, 0xB8, 0, 100, 12, 1, 5] =
    some (.queueNotes { form := 2, keep := true, cue := 3 }
      [{ frequency := 440, duration := 100, volume := 12, waveform := 1, gap := 5 }]) := by decide

theorem test_decode_config_fault : decodeRequest 24 [4, 3, 0x01, 0xF4, 1, 1, 6] = some (.configFault 4 3 500 1 1 6) := by decide

theorem test_decode_lengths : decodeRequest 22 [0] = none ∧ decodeRequest 4 [0, 1, 2, 3] = none ∧ decodeRequest 0 [] = none ∧
    decodeRequest 31 [] = none ∧ decodeRequest 19 [0, 1] = none := by decide

/-! ## Worked examples and tables of the spec -/

/-- 1.4, three stations contend: claim values 212, 100 and 76. -/
theorem test_claim_values : (newFrame 5 .publish []).claim = 212 ∧ (newFrame 9 (.cueRequest ctx) []).claim = 100 ∧
    (newFrame 3 (.cueRequest ctx) []).claim = 76 := by decide

set_option maxRecDepth 4000 in
/-- R2 and R6 on a frame whose check character closes to 0 (`test_crc`): the claim alone with mark bit 1, then length, payload
and check; the levels of the claim character 212. -/
theorem test_frame_characters : (newFrame 5 .publish [0x31]).chars =
      [⟨212, true, false⟩, ⟨1, false, false⟩, ⟨0x31, false, false⟩, ⟨0, false, false⟩] ∧
    (sentChar true 212).levels = [false, true, true, false, true, false, true, false, false, true, true] ∧
    brokenAt [⟨212, true, false⟩, ⟨1, false, false⟩, ⟨0x31, true, false⟩] = some (.later 1) := by decide

/-- 11.4: a NUDGE is the header 0xC0 and the check byte 0x3F; the acknowledge is 0x3C. -/
theorem test_sensor_sends : SensorTx.nudge.bytes = [0xC0, 0x3F] ∧ SensorTx.acknowledge.bytes = [0x3C] ∧
    (SensorTx.select 1).bytes = [0xA1, 1, 0x5F] := by decide

/-- The CRC-8 of x^8 + x^5 + x^4 + 1 by hand: x^8 leaves 0x31, x^10 0xC4, x^11 0x88 with 0x31; a check closes to 0. -/
theorem test_crc : crc8 [0x01] = 0x31 ∧ crc8 [0x04] = 0xC4 ∧ crc8 [0x08] = 0xB9 ∧ crc8 [0x01, 0x31] = 0 := by decide

/-- 4.3, RESET_POSITION during a move. -/
def moving : Channel := { Channel.reset false false with
  mode := .position 2000, position := 1200, history := #v[1130, 1140, 1150, 1160, 1170, 1180, 1190, 1200], tc := 1180, tf := 3,
  v := 80 }

theorem test_reset_position : resetPosition 0 moving = { moving with
    mode := .position 800, position := 0, tc := BitVec.ofInt 32 (-20),
    history := #v[BitVec.ofInt 32 (-70), BitVec.ofInt 32 (-60), BitVec.ofInt 32 (-50), BitVec.ofInt 32 (-40),
      BitVec.ofInt 32 (-30), BitVec.ofInt 32 (-20), BitVec.ofInt 32 (-10), 0] } := by decide

theorem test_distance : distance 2000 1180 3 = 6557 ∧ distance 800 (BitVec.ofInt 32 (-20)) 3 = 6557 := by decide

/-- 4.4, goals computed by FOLLOW. -/
theorem test_follow_goals :
    let r : FollowRec := { source := .mirror 2, num := -1, den := 2, offset := 5000 }
    goalOf r 2401 = 3800 ∧ goalOf r 2460 = 3770 ∧ goalOf r 2701 = 3650 ∧
    goalOf { source := .sensor 0 0, num := 3, den := 4, offset := 100 } (BitVec.ofInt 32 (-1001)) = BitVec.ofInt 32 (-650) := by
  decide

/-- 5.3, a move from rest: periods 1, 6, 7, 9, 12 and 13. -/
theorem test_profile_from_rest :
    profileSpeed 20 160 800 0 = 20 ∧ profileSpeed 20 160 500 100 = 120 ∧ profileSpeed 20 160 380 120 = 100 ∧
    profileSpeed 20 160 200 80 = 80 ∧ profileSpeed 20 160 20 40 = 20 ∧ profileSpeed 20 160 0 20 = 0 := by decide

/-- 5.3, a goal moved behind the motion: periods 1, 5, 6, 9 and 12. -/
theorem test_profile_goal_behind :
    profileSpeed 20 160 (-80) 100 = 80 ∧ profileSpeed 20 160 (-280) 20 = 0 ∧ profileSpeed 20 160 (-280) 0 = -20 ∧
    profileSpeed 20 160 (-160) (-60) = -60 ∧ profileSpeed 20 160 (-20) (-40) = -20 := by decide

/-- 5.5, one period of a position move, at period 6 with the position read 36 and 900 mA. -/
def periodSix : Channel := { Channel.reset false false with
  mode := .position 100, params := { Params.defaults with vmax := 160 }, position := 36,
  history := #v[25, 26, 27, 28, 30, 31, 33, 34], tc := 37, tf := 4, v := 100, integ := 12000 }

theorem test_period :
    let ch := (after (exec (.controlPeriodExpiry 0 900) (up.setChan 0 periodSix))).chan 0
    ch.speed = 11 ∧ ch.tc = 52 ∧ ch.tf = 4 ∧ ch.v = 120 ∧ ch.ref = 186 ∧ ch.integ = 19000 ∧ ch.leff = 1000 ∧ ch.duty = 484 ∧
    ch.nextC = 968 ∧ ch.nextDir = .forward ∧ ch.settle = 0 := by decide

/-- 5.6: dset 500 at 8000 mV and 6000 mV, 700 at 6200 mV, -3 at 7000 mV. -/
theorem test_open_duty : openDuty 1000 500 8000 = 450 ∧ openDuty 1000 500 6000 = 600 ∧ openDuty 1000 700 6200 = 812 ∧
    openDuty 1000 (-3) 7000 = -3 := by decide

/-- 5.9, a reversal at the bridge: wraps 1 and 2. -/
theorem test_bridge_reversal :
    let ch : Channel := { up.chan 2 with
      mode := .openDrive (-250), duty := -250, nextC := 500, nextDir := .reverse, runC := 600, runDir := .forward }
    let s1 := after (exec (.pwmWrap 2) (up.setChan 2 ch))
    let s2 := after (exec (.pwmWrap 2) s1)
    (s1.chan 2).runC = 0 ∧ (s1.chan 2).runDir = .forward ∧ (s1.chan 2).bridge = .lowSides ∧
    (s2.chan 2).runC = 500 ∧ (s2.chan 2).bridge = .drive .reverse 500 := by decide

/-- 8.6: the phase increments. -/
theorem test_phase_increments : phaseIncrement 40 = 41943 ∧ phaseIncrement 262 = 274727 ∧ phaseIncrement 440 = 461373 ∧
    phaseIncrement 523 = 548405 ∧ phaseIncrement 1000 = 1048576 ∧ phaseIncrement 8000 = 8388608 := by decide

/-- 8.6: the amplitudes, outside SAG and in SAG, and the triangle of amplitude 160 at three quarters. -/
theorem test_amplitudes : amplitude 15 15 false = 240 ∧ amplitude 12 15 true = 96 ∧ amplitude 10 9 false = 96 ∧
    amplitude 7 11 false = 82 ∧ amplitude 7 11 true = 41 ∧ amplitude 1 1 true = 0 ∧
    waveSample .triangle 160 6291456 = 80 ∧ waveSample .triangle 160 0 = -160 := by decide

/-- R102: 8 bits at 2400 bit/s are 3,333,333 ns; 3 per cent more still snaps, 4 per cent does not. -/
theorem test_snap_rate : snapRate 3333333 = some .r2400 ∧ snapRate 3433333 = some .r2400 ∧ snapRate 3466666 = none := by decide

set_option maxRecDepth 4000 in
/-- R155 to R159: JOIN_GROUPS in a tablet message sets the membership and answers the old mask. -/
theorem test_tablet_join_groups :
    let t := after (exec (.tabletMessage (lineBytes [7, 0, 8, 6])) up)
    t.cue.membership = 6 ∧ t.tablet.reports = [[1, 7, 5, 0, 1]] ∧ t.tablet.route = .self := by decide

set_option maxRecDepth 4000 in
/-- A tablet message with its check byte wrong is counted and answers nothing (R156). -/
theorem test_tablet_bad_check :
    let t := after (exec (.tabletMessage [⟨0xA5, false⟩, ⟨1, false⟩, ⟨7, false⟩, ⟨0, false⟩]) up)
    t.tablet.badCount = 1 ∧ t.tablet.reports = [] := by decide

/-! ## Operands and states that meet the statements' hypotheses -/

theorem test_meets_step : ({ up with pending := [Instr.recordSent] } : State).pending = .recordSent :: [] ∧
    up.pending = [] ∧ up.inReset = false ∧ State.reset.pending = [] ∧ State.reset.inReset = true := by decide

theorem test_meets_queue_kept : ∃ t, exec .recordSent up = .next t := ⟨_, rfl⟩

theorem test_meets_straps : up.link.own = up.straps.stn ∧ up.link.rate = up.straps.rate ∧ ∃ t, exec .recordSent up = .next t :=
  ⟨by decide, by decide, _, rfl⟩

theorem test_meets_halt_lasts : (∃ t, exec .sampleClock halted = .next t) ∧ (∀ h, Instr.sampleClock ≠ .clearFault h) ∧
    (∀ h, Instr.sampleClock ≠ .restart h) ∧ (∀ b, Instr.sampleClock ≠ .tabletMessage b) ∧ halted.fault.halted = true ∧
    (halted.chan 3).haltFlag = true :=
  ⟨⟨_, rfl⟩, nofun, nofun, nofun, by decide, by decide⟩

theorem test_meets_positions_hold : (∃ t, exec (.controlPeriodExpiry 0 900) up = .next t) ∧
    (∀ h c v, Instr.controlPeriodExpiry 0 900 ≠ .resetPosition h c v) ∧
    (∀ c a b, Instr.controlPeriodExpiry 0 900 ≠ .encoderTransition c a b) ∧
    (∀ h i x y z, Instr.controlPeriodExpiry 0 900 ≠ .setListen h i x y z) ∧
    (∀ h i, Instr.controlPeriodExpiry 0 900 ≠ .dropListen h i) ∧ (∀ h, Instr.controlPeriodExpiry 0 900 ≠ .restart h) ∧
    (∀ b, Instr.controlPeriodExpiry 0 900 ≠ .tabletMessage b) :=
  ⟨⟨_, rfl⟩, nofun, nofun, nofun, nofun, nofun, nofun⟩

theorem test_meets_stilled : Stilled halted ∧ ∃ t, step halted = .next t := ⟨by decide, _, rfl⟩

/-- Eight frames queued, one of them a HALT frame. -/
def fullQueue : State := linkUp fun l => { l with
  state := .sending, queue := [contending (newFrame 5 .halt [1, 8]), cue, cue, cue, cue, cue, cue, publish] }

theorem test_meets_link_safe : LinkSafe fullQueue ∧ ∃ t, step fullQueue = .next t := ⟨by decide, _, rfl⟩

/-- Nine event records of one segment and eight relay entries. -/
def fullReports : State := { up with tablet := { up.tablet with
  reports := List.replicate 9 [2, 26, 5, 0, 0, 0, 0, 0, 0], lost := 255, nextRelay := 8,
  relays := [0, 1, 2, 3, 4, 5, 6, 7].map fun i => entry i .queued } }

theorem test_meets_report_safe : ReportSafe fullReports ∧ ∃ t, step fullReports = .next t := ⟨by decide, _, rfl⟩

def staged (n : Nat) : List CueEntry :=
  [{ cue := n, action := .snapshot, keep := true }, { cue := n, action := .rearmAll, keep := false },
   { cue := n, action := .motor 0 .hold, keep := false }, { cue := n, action := .startSound, keep := false }]

/-- Sixteen entries. -/
def fullTable : State := up.withTable (staged 1 ++ staged 2 ++ staged 3 ++ staged 15)

theorem test_meets_cue_safe : CueSafe fullTable ∧ ∃ t, step fullTable = .next t := ⟨by decide, _, rfl⟩

theorem test_meets_sound_safe : SoundSafe (soundUp fun x => { x with queue := List.replicate 32 note, nextCompare := 490 }) ∧
    ∃ t, step (soundUp fun x => { x with queue := List.replicate 32 note, nextCompare := 490 }) = .next t :=
  ⟨by decide, _, rfl⟩

theorem test_meets_motor_safe : MotorSafe (up.setChan 0 periodSix) ∧ ∃ t, step (up.setChan 0 periodSix) = .next t :=
  ⟨by decide, _, rfl⟩

theorem test_meets_unit_safe : UnitSafe (up.setEntry 0 (some (mirror .fresh))) ∧
    ∃ t, step (up.setEntry 0 (some (mirror .fresh))) = .next t := ⟨by decide, _, rfl⟩

/-- The smallest claim value wins, the older of two equal ones first. -/
theorem test_meets_quiet_gap : (linkUp fun l => { l with queue := [publish] ++ cue :: [cue] }).link.state = .listening ∧
    (∀ g ∈ [publish], cue.claim.toNat < g.claim.toNat) ∧ (∀ g ∈ [cue], cue.claim.toNat ≤ g.claim.toNat) ∧
    (linkUp fun l => { l with state := .sending }).link.state = .sending ∧
    (linkUp fun l => { l with state := .receiving }).link.state = .receiving ∧ up.link.queue = [] := by decide

theorem test_meets_receiver : (linkUp fun l => { l with state := .idle }).link.state = .idle ∧
    (linkUp fun l => { l with state := .receiving }).link.state = .receiving ∧
    (linkUp fun l => { l with state := .receiving }).link.rxBroken = false ∧ (40 : Byte).toNat ≤ 40 ∧ 40 < (41 : Byte).toNat ∧
    (linkUp fun l => { l with state := .receiving, rxBroken := true }).link.rxBroken = true := by decide

def heldPublish : State := linkUp fun l => { l with
  state := .sending, held := some publish, queue := [cue] ++ contending publish :: [] }

theorem test_meets_contention_loss : (linkUp fun l => { l with state := .sending }).link.held = none ∧
    heldPublish.link.state = .sending ∧ heldPublish.standalone = false ∧ heldPublish.link.held = some publish ∧
    heldPublish.link.queue = [cue] ++ contending publish :: [] ∧ (contending publish).isPublish = true ∧
    ∀ f ∈ [cue] ++ ([] : List Frame), f.isPublish = false ∧ f.contending = false := by decide

/-- A clash at the seventh spoil, and a dominant verdict at the eighth and the seventh. -/
def inVerdict (q : List Frame) : State := linkUp fun l => { l with state := .verdict, queue := q }

theorem test_meets_spoiled :
    (linkUp fun l => { l with state := .sending, queue := [publish] ++ contending { cue with spoils := 6 } :: [] }).link.held =
      none ∧
    (contending cue).contending = true ∧ (∀ g ∈ [publish] ++ ([] : List Frame), g.contending = false) ∧
    (contending { cue with spoils := 6 }).spoils < 7 ∧ 7 ≤ (contending { cue with spoils := 7 }).spoils ∧
    (inVerdict [cue]).link.state = .verdict ∧ (inVerdict [cue]).link.held = none ∧
    (∀ f ∈ (inVerdict [cue]).link.queue, f.contending = false) ∧
    fullReports.tablet.relays = [] ++ entry 0 .queued :: fullReports.tablet.relays.drop 1 ∧
    (∀ r ∈ [] ++ fullReports.tablet.relays.drop 1, r.id ≠ (entry 0 .queued).id) ∧
    heldPublish.standalone = false ∧ heldPublish.link.held = some publish ∧ heldPublish.link.state = .sending ∧
    (contending publish).isPublish = true ∧ (contending publish).spoils < 7 ∧
    (∀ x ∈ [cue] ++ ([] : List Frame), x.isPublish = false ∧ x.contending = false) ∧
    7 ≤ (contending { publish with spoils := 7 }).spoils := by decide

/-- A clash at the eighth spoil removes the frame (R9, R13). -/
theorem test_clash_at_eighth_spoil :
    let s := linkUp fun l => { l with state := .sending, queue := [publish, contending { cue with spoils := 7 }] }
    let t := after (exec .bitClash s)
    t.link.queue = [publish] ∧ t.link.state = .receiving ∧ t.link.spoiled = 1 := by decide

set_option maxRecDepth 4000 in
theorem test_meets_verdict : (linkUp fun l => { l with state := .receiving }).link.state = .receiving ∧
    (linkUp fun l => { l with state := .sending }).link.state = .sending ∧ cue.payload.length ≤ 40 ∧
    readFrame (newFrame 5 .halt [1, 8]).chars =
      some { claim := 0x14, length := 2, payload := [1, 8], check := crc8 [2, 1, 8], stopLow := false } ∧
    (linkUp fun l => { l with state := .receiving }).link.rxBroken = false ∧
    heldPublish.link.queue = [cue] ++ contending publish :: [] ∧ (contending publish).contending = true ∧
    (∀ g ∈ [cue], g.contending = false) := by decide

/-- Station 5 in the VERDICT state with another station's frame held. -/
def hears (claim : Byte) (payload : List Byte) (s : State) : State := { s with link := { s.link with
  state := .verdict, rxHeld := some { claim := claim, payload := payload } } }

/-- A DIRECTED frame of station 9 for station 8; the delivery of an own HALT frame and of an own COMMAND frame. -/
theorem test_meets_delivered :
    (∀ g ∈ (hears 0xA4 [7, 8, 22] up).link.queue, g.contending = false) ∧ (8 : Byte) ≠ up.link.own.setWidth 8 ∧
    (0xA4 : Byte).toNat / 64 = 2 ∧ (0xA4 : Byte).toNat % 4 = 0 ∧ claimStation 0xA4 ≠ up.link.own ∧
    claimStation 0x94 = up.link.own ∧ (0x94 : Byte).toNat / 64 = 2 ∧ (0x94 : Byte).toNat % 4 = 0 ∧
    (newFrame 5 .halt [1, 8]).owner = .halt ∧ (inVerdict ([cue] ++ contending command :: [])).link.held = none ∧
    (contending command).owner = .command (entry 0 .queued).id ∧ (contending command).contending = true ∧
    (∀ g ∈ [cue], g.contending = false) := by decide

theorem test_meets_halt_frame : (hears 0x24 [1, 8] up).link.state = .verdict ∧ (0x24 : Byte).toNat / 64 = 0 ∧
    claimStation 0x24 ≠ up.link.own ∧ (8 : Byte).toNat ≤ 8 ∧ (1 : Byte) &&& (hears 0x24 [1, 8] up).cue.membership ≠ 0 ∧
    ∀ g ∈ (hears 0x24 [1, 8] up).link.queue, g.contending = false := by decide

/-- CUE frames of station 9 and of the own number, taken and not taken, and the delivery of own ones. -/
theorem test_meets_delivered_cue :
    (let s := inVerdict ([publish] ++ contending cue :: []);
      s.link.state = .verdict ∧ s.link.held = none ∧ (contending cue).contending = true ∧ publish.contending = false) ∧
    (contending cue).payload = [0, 3] ∧ (newFrame 5 (.cueWatch 3) [2, 15]).payload = [2, 15] ∧
    cue.owner = .cueRequest ctx ∧ (newFrame 5 (.cueWatch 3) [2, 15]).owner = .cueWatch 3 ∧
    (hears 0x64 [1, 15] up).link.rxHeld = some { claim := 0x64, payload := [1, 15] } ∧ (0x64 : Byte).toNat / 64 = 1 ∧
    (∀ g ∈ (hears 0x64 [1, 15] up).link.queue, g.contending = false) ∧ claimStation 0x64 ≠ up.link.own ∧
    (0x54 : Byte).toNat / 64 = 1 ∧ claimStation 0x54 = up.link.own ∧ (1 : Byte) &&& up.cue.membership ≠ 0 ∧
    (1 ≤ (1 : Byte).toNat ∧ (15 : Byte).toNat ≤ 15) ∧ 15 < (16 : Byte).toNat ∧
    ((2 : Byte) ≠ 0 ∧ (2 : Byte) &&& up.cue.membership = 0) ∧ [(1 : Byte), 3, 3].length ≠ 2 := by decide

/-- Station 9 is PRESENT and sends READ_STATUS to station 5. -/
def nearNine : State := linkUp fun l => l.setRoster 9 (some 500)

theorem test_meets_delivered_command :
    (nearNine.link.present (claimStation 0xA4)).isSome = true ∧
    (hears 0xA4 (requestBody 7 5 (.readStatus 5)) nearNine).link.rxHeld =
      some { claim := 0xA4, payload := requestBody 7 (nearNine.link.own.setWidth 8) (.readStatus 5) } ∧
    (Request.readStatus 5).wf = true ∧
    (∀ g ∈ (hears 0xA4 (requestBody 7 5 (.readStatus 5)) nearNine).link.queue, g.contending = false) := by decide

theorem test_meets_stuck : up.link.state ≠ .offline ∧ up.link.held = none ∧ State.reset.link.state = .offline ∧
    heldPublish.link.state ≠ .offline ∧ heldPublish.link.held = some publish ∧
    (linkUp fun l => l.setRoster 9 (some 0)).link.present 9 = some 0 ∧ nearNine.link.present 9 ≠ some 0 ∧
    up.link.dupTimer ≠ some 0 ∧ (linkUp fun l => { l with dupTimer := some 0 }).link.dupTimer = some 0 := by decide

theorem test_meets_standalone : (State.reset.link.own = 0 ∨ State.reset.link.own = 15) ∧ State.reset.link.state = .offline := by
  decide

theorem test_meets_set_publish :
    let good (p : Nat) : Prop := p = 0 ∨ (10 ≤ p ∧ p ≤ 1000 ∧ p % 10 = 0)
    (¬ good (9 : Half).toNat) ∧ (¬ good (1010 : Half).toNat) ∧ good (10 : Half).toNat ∧ good (1000 : Half).toNat ∧
    [0x10#8, 0x11, 0x12, 0x13, 0x20, 0x60, 0x70, 0x30].Nodup ∧
    (∀ c ∈ [0x10#8, 0x11, 0x12, 0x13, 0x20, 0x60, 0x70, 0x30], validItem c = true) ∧
    8 < (List.replicate 9 0x10#8).length ∧ (List.replicate 54 0x10#8).length ≤ 54 ∧ validItem 0x14 = false ∧
    validItem 0x10 = true ∧ ([0x10#8, 0x10].take 1).contains 0x10 = true := by decide

/-- Station 5 with a publish timer running, and with the queue given. -/
def publishing (q : List Frame) : State :=
  { (linkUp fun l => { l with queue := q }) with
    publish := { current := { items := [0x60], period := 100 }, pendingSet := none, timer := some 0 } }

theorem test_meets_publish_expiry : (publishing []).publish.timer = some 0 ∧ (publishing []).publish.pendingSet = none ∧
    (publishing []).publish.current.period ≠ 0 ∧ (publishing []).standalone = false ∧ (publishing []).link.state ≠ .idle ∧
    (∃ g ∈ (publishing [contending publish]).link.queue, g.isPublish = true ∧ g.contending = true) ∧
    (publishing [cue, publish]).link.queue = [cue] ++ publish :: [] ∧ publish.isPublish = true ∧ publish.contending = false ∧
    (∀ x ∈ [cue] ++ ([] : List Frame), x.isPublish = false) ∧
    (∀ g ∈ (publishing (List.replicate 6 cue)).link.queue, g.isPublish = false) ∧
    (publishing (List.replicate 6 cue)).link.queue.length < 7 ∧
    (up.chan 0).kind = .encoded ∧ (up.chan 0).position ≠ 0x80000000#32 ∧
    ((chanUp fun ch => { ch with kind := .plain }).chan 0).kind = .plain ∧
    ((chanUp fun ch => { ch with position := 0x80000000#32 }).chan 0).position = 0x80000000#32 ∧
    up.publish.timer ≠ some 0 ∧ up.publish.current.period = 0 ∧
    ({ up.publish with pendingSet := some { items := [], period := 0 }, timer := some 0 } : PublishUnit).pendingSet =
      some { items := [], period := 0 } := by decide

/-- Entry 2 is named by a watch on it. -/
def watchedMirror : State := (up.setEntry 2 (some (mirror .fresh))).setWatch 0
  (some { watch .armed .notify false with subject := .mirror 2 })

theorem test_meets_set_listen : (9 : BitVec 4) ≠ 0 ∧ (9 : BitVec 4) ≠ 15 ∧ (9 : BitVec 4) ≠ up.link.own ∧
    validItem 0x50 = true ∧
    (∀ j : Fin 16, j ≠ 0 → ∀ e ∈ (up.entry j).toList, ¬(e.source = 9 ∧ e.item = 0x50)) ∧ up.entry 0 = none ∧
    (∀ j : Fin 16, j ≠ 2 → ∀ e ∈ (watchedMirror.entry j).toList, ¬(e.source = 9 ∧ e.item = 0x10)) ∧
    watchedMirror.entry 2 = some (mirror .fresh) ∧ ¬((mirror .fresh).source = 9 ∧ (mirror .fresh).item = 0x10) ∧
    validItem 0x10 = true ∧ watchedMirror.useCount 2 ≠ 0 := by decide

/-- SET_LISTEN of the same mirror, fresh at an age of 100 and never fresh; a pair held at another index; bad arguments. -/
theorem test_meets_set_listen_again :
    let aged : ListenEntry := { mirror .fresh with age := some 100 }
    let s := up.setEntry 0 (some aged)
    s.entry 0 = some aged ∧ aged.source = 9 ∧ aged.item = 0x50 ∧ aged.state = .fresh ∧ aged.age = some 100 ∧
    (∀ j : Fin 16, j ≠ 0 → ∀ e ∈ (s.entry j).toList, ¬(e.source = 9 ∧ e.item = 0x50)) ∧ (100 : Half).toNat ≤ 100 ∧
    ¬(101 : Half).toNat ≤ 100 ∧ (mirror .never).state ≠ .fresh ∧ s.useCount 0 = 0 ∧ ¬(aged.source = 9 ∧ aged.item = 0x10) ∧
    (0 : Fin 16) ≠ 1 ∧ 15 < (16 : Byte).toNat ∧ 14 < (15 : Byte).toNat ∧ (5 : Byte) = up.link.own.setWidth 8 ∧
    validItem 0x90 = false := by decide

theorem test_meets_drop_listen : 15 < (16 : Byte).toNat ∧ up.entry 2 = none ∧ (watchedMirror.entry 2).isSome = true ∧
    watchedMirror.useCount 2 ≠ 0 ∧ ((up.setEntry 2 (some (mirror .fresh))).entry 2).isSome = true ∧
    (up.setEntry 2 (some (mirror .fresh))).useCount 2 = 0 := by decide

/-- Entry 2 mirrors station 9's battery voltage, and station 9's PUBLISH frame comes. -/
def mirroring (st : MirrorState) : State := nearNine.setEntry 2 (some (mirror st))

theorem test_meets_mirror :
    let s := hears 0xE4 (0x50 :: wordBytes 7000) (mirroring .stale)
    s.link.state = .verdict ∧ (∀ g ∈ s.link.queue, g.contending = false) ∧
    s.link.rxHeld = some { claim := 0xE4, payload := (mirror .stale).item :: wordBytes 7000 } ∧
    (0xE4 : Byte).toNat / 64 = 3 ∧ claimStation 0xE4 ≠ s.link.own ∧ (s.link.present (claimStation 0xE4)).isSome = true ∧
    s.entry 2 = some (mirror .stale) ∧ (mirror .stale).source = claimStation 0xE4 ∧
    (∀ j : Fin 16, j ≠ 2 → ∀ x ∈ (s.entry j).toList, ¬(x.source = (mirror .stale).source ∧ x.item = (mirror .stale).item)) ∧
    (∀ j : Fin 8, s.watch j = none) ∧ (7000 : Word) ≠ 0x80000000#32 ∧
    (mirroring .fresh).entry 2 = some (mirror .fresh) ∧ (mirror .fresh).state = .fresh ∧ (mirror .never).state ≠ .fresh ∧
    ({ mirror .fresh with age := some 100 } : ListenEntry).limit ≤ 100 ∧ 99 < (mirror .fresh).limit ∧
    [(0x50#8, 7000#32), (0x10, 0)].flatMap (fun e => e.1 :: wordBytes e.2) = 0x50 :: wordBytes 7000 ++ 0x10 :: wordBytes 0 ∧
    ([(0x50#8, 7000#32), (0x10, 0)].map Prod.fst).Nodup ∧ ¬([(0x50#8, 7000#32), (0x50, 0)].map Prod.fst).Nodup ∧
    [0x50#8, 1].length % 5 ≠ 0 := by decide

theorem test_meets_staging :
    (∀ y ∈ up.cue.table, ¬(y.cue = (15 : Byte).toNat ∧ y.action.target = CueAction.snapshot.target)) ∧
    up.cue.table.length < 16 ∧ 1 ≤ (1 : Byte).toNat ∧ (15 : Byte).toNat ≤ 15 ∧
    (∀ y ∈ fullTable.cue.table, ¬(y.cue = (4 : Byte).toNat ∧ y.action.target = CueAction.snapshot.target)) ∧
    16 ≤ fullTable.cue.table.length ∧
    fullTable.cue.table = staged 1 ++ { cue := 2, action := .snapshot, keep := true } ::
      ((staged 2).drop 1 ++ staged 3 ++ staged 15) ∧
    (∀ z ∈ staged 1, ¬(z.cue = (2 : Byte).toNat ∧ z.action.target = CueAction.snapshot.target)) := by decide

theorem test_meets_immediate_cue : ∀ (k : Fin 8) (w : Watch), (up.setWatch 1 (some (watch .fired .notify false))).watch k = some w →
    w.state ≠ .tripped := by
  intro k w h
  have all : ∀ k : Fin 8, ∀ w ∈ ((up.setWatch 1 (some (watch .fired .notify false))).watch k).toList, w.state ≠ .tripped := by
    decide
  exact all k w (by rw [h]; exact List.mem_singleton.2 rfl)

theorem test_meets_drop_cues : 15 < (16 : Byte).toNat ∧ 1 ≤ (1 : Byte).toNat ∧ (15 : Byte).toNat ≤ 15 := by decide

theorem test_meets_listings : 15 < (16 : Byte).toNat ∧ (15 : Byte).toNat ≤ 15 ∧ 5 < (6 : Byte).toNat ∧
    (5 : Byte).toNat ≤ 5 := by decide

theorem test_meets_send_cue : State.reset.standalone = true ∧ (1 : Byte) &&& State.reset.cue.membership ≠ 0 ∧
    ¬((2 : Byte) = 0 ∨ (2 : Byte) &&& State.reset.cue.membership ≠ 0) ∧ up.standalone = false ∧ up.link.queue.length < 7 ∧
    up.link.state ≠ .idle ∧ 8 ≤ (linkUp fun l => { l with queue := List.replicate 8 cue }).link.queue.length ∧
    (∀ g ∈ (linkUp fun l => { l with queue := List.replicate 8 cue }).link.queue, g.isPublish = false) ∧
    1 ≤ (1 : Byte).toNat ∧ (15 : Byte).toNat ≤ 15 := by decide

theorem test_meets_taken_cue : (∀ e ∈ fullTable.cue.table, e.cue ≠ 4) ∧ halted.fault.halted = true ∧
    up.fault.halted = false ∧ (up.chan 0).haltFlag = false ∧
    ((tripChannel 0 .brake 0 up).chan 0).tripHolders ≠ 0 ∧ (tripChannel 0 .brake 0 up).fault.halted = false ∧
    ((tripChannel 0 .brake 0 up).chan 0).haltFlag = false := by decide

theorem test_meets_set_motor : up.fault.halted = false ∧ (up.chan 0).haltFlag = false ∧ (up.chan 0).tripHolders = 0 ∧
    (up.chan 0).kind = .encoded ∧ (1000 : Word).toInt ≤ 1000 ∧ -1000 ≤ (BitVec.ofInt 32 (-1000)).toInt ∧
    5 < (6 : Byte).toNat ∧ 1000 < (1001 : Word).toInt ∧ halted.fault.halted = true ∧
    ¬(5 < (5 : Byte).toNat ∨ ((5 : Byte) = 2 ∧ ((0 : Word).toInt < -1000 ∨ 1000 < (0 : Word).toInt))) ∧
    ((tripChannel 0 .brake 0 up).chan 0).tripHolders ≠ 0 ∧ 3 ≤ (3 : Byte).toNat ∧ (5 : Byte).toNat ≤ 5 ∧
    ((chanUp fun ch => { ch with kind := .plain }).chan 0).kind = .plain := by decide

theorem test_meets_set_follow :
    let ok (f : RawFollow) : Prop := -1024 ≤ f.numerator.toInt ∧ f.numerator.toInt ≤ 1024 ∧ 1 ≤ f.denominator.toNat ∧
      f.denominator.toNat ≤ 1024
    let f : RawFollow :=
      { source := 0, which := 1, valueNumber := 3, numerator := 0xFC00, denominator := 1024, offset := 0 }
    ok f ∧ ok { f with numerator := 1024, denominator := 1 } ∧ (0 : Fin 4) ≠ 1 ∧ f.which = BitVec.ofNat 8 (1 : Fin 4).val ∧
    (watchedMirror.entry 2).isSome = true ∧ f.valueNumber.toNat ≤ 3 ∧ (up.chan 0).kind = .encoded := by decide

/-- Arguments of SET_FOLLOW just outside their ranges, and the states that refuse it. -/
theorem test_meets_follow_refusals :
    let f : RawFollow := { source := 0, which := 1, valueNumber := 0, numerator := 1, denominator := 1, offset := 0 }
    (f.source = 0 ∧ f.which.toNat = (1 : Fin 4).val ∧ (1 : Fin 4) ≠ 0) ∧
    (-1024 ≤ f.numerator.toInt ∧ f.numerator.toInt ≤ 1024 ∧ 1 ≤ f.denominator.toNat ∧ f.denominator.toNat ≤ 1024) ∧
    1024 < (1025 : Half).toInt ∧ (0xFBFF : Half).toInt < -1024 ∧ ¬ 1 ≤ (0 : Half).toNat ∧ 1024 < (1025 : Half).toNat ∧
    15 < (16 : Byte).toNat ∧ 3 < (4 : Byte).toNat ∧ (4 : Byte).toNat ≠ (3 : Fin 4).val + 0 ∧ up.entry 0 = none ∧
    halted.fault.halted = true ∧ (halted.chan 0).haltFlag = true ∧ ((tripChannel 0 .brake 0 up).chan 0).tripHolders ≠ 0 ∧
    (tripChannel 0 .brake 0 up).fault.halted = false ∧ ((tripChannel 0 .brake 0 up).chan 0).haltFlag = false ∧
    ((chanUp fun ch => { ch with kind := .plain }).chan 0).kind = .plain ∧ (up.chan 0).tripHolders = 0 := by decide

theorem test_meets_config_motor : (up.chan 0).mode = .coast ∧ (up.chan 0).kind ≠ .plain ∧
    ((chanUp fun ch => { ch with mode := .hold 0 }).chan 0).mode ≠ .coast ∧
    ((chanUp fun ch => { ch with mode := .hold 0 }).chan 0).mode ≠ .brake := by decide

theorem test_meets_reset_position : moving.mode.goal = some 2000 ∧ (up.chan 0).mode.goal = none := by decide

theorem test_meets_encoder : (up.chan 0).line1 = false ∧ (up.chan 0).line2 = false ∧ up.inReset = false ∧
    (up.chan 0).kind = .encoded ∧ State.reset.inReset = true := by decide

theorem test_meets_bridge :
    let ch : Channel := { up.chan 0 with nextC := 8, nextDir := .reverse, runC := 2000, mode := .openDrive 4 }
    up.inReset = false ∧ (up.chan 0).runC = 0 ∧ ch.nextC ≠ 0 ∧ ch.nextDir ≠ ch.runDir ∧ ch.runC ≠ 0 ∧
    (up.chan 0).nextC = 0 ∧ (up.chan 0).mode = .coast ∧ up.supply.state ≠ .brownout ∧ ch.mode ≠ .coast ∧ ch.mode ≠ .brake := by
  decide

theorem test_meets_held_period :
    let s := chanUp fun ch => { ch with kind := .plain }
    s.inReset = false ∧ (s.chan 0).kind = .plain ∧ (s.chan 0).pendingParams = none ∧ 1500 ≤ (s.chan 0).params.ilim ∧
    (s.chan 0).mode = .coast ∧ (s.source 0).condition = false ∧ 1 ≤ (s.chan 0).params.stallTime := by decide

/-- A driving channel in each mode, with the current over the limit and within it. -/
theorem test_meets_driving_period :
    let m (x : ChanMode) : State := chanUp fun ch => { ch with mode := x }
    let r : FollowRec := { source := .localChan 1, num := 1, den := 1, offset := 0 }
    up.inReset = false ∧ (up.chan 0).pendingParams = none ∧ 1500 ≤ (up.chan 0).params.ilim ∧ (up.chan 0).params.ilim < 1501 ∧
    (up.chan 0).params.ilim < 4000 ∧ (up.chan 0).leff ≤ (up.chan 0).params.limit ∧ up.supply.state ≠ .sag ∧
    (up.chan 0).haltFlag = false ∧ (up.chan 0).tripHolders = 0 ∧ up.supply.state ≠ .brownout ∧
    (∀ k : Fin 8, up.watch k = none) ∧ (up.chan 0).mode = .coast ∧
    ((m (.openDrive 5)).chan 0).mode = .openDrive 5 ∧ ((m (.position 9)).chan 0).mode = .position 9 ∧
    ((m (.follow r 0)).chan 0).mode = .follow r 0 ∧ readSource r.source (m (.follow r 0)) = .value 0 ∧
    readSource (.mirror 0) (m (.follow r 0)) = .lapse 2 ∧ readSource (.sensor 0 0) (m (.follow r 0)) = .lapse 3 := by decide

/-- The twentieth settled period: the counter at 20 and the move done. -/
theorem test_twentieth_settled_period :
    let s := chanUp fun ch => { ch with mode := .position 0, settle := 19 }
    let t := after (exec (.controlPeriodExpiry 0 0) s)
    (t.chan 0).settle = 20 ∧ (t.chan 0).moveDone = true := by decide

/-- A period of overcurrent at the floor that reaches the stall time: STALL begins and its channel is halted. -/
theorem test_stall_reached :
    let s := (chanUp fun ch => { ch with mode := .openDrive 500, leff := 100, stall := ch.params.stallTime - 1 }).setSource 0
      { up.source 0 with grace := 0, reaction := .channelStop }
    let t := after (exec (.controlPeriodExpiry 0 4000) s)
    (t.source 0).state = .latched ∧ (t.chan 0).haltFlag = true ∧ (t.chan 0).duty = 0 := by decide

theorem test_meets_adoption_and_stall :
    ((chanUp fun ch => { ch with pendingParams := some ch.params }).chan 0).pendingParams = some (up.chan 0).params ∧
    (let f := (sourceUp 0 fun f => { f with grace := 0, reaction := .channelStop }).source 0;
      f.condition = false ∧ f.state = .inactive ∧ f.grace = 0 ∧ f.reaction = .channelStop) ∧
    (let f := (sourceUp 0 fun f => { f with condition := true, state := .latched }).source 0;
      f.condition = true ∧ f.state = .latched) ∧
    (mirroring .fresh).entry 2 = some (mirror .fresh) := by decide

/-- A driving channel that its own position trips. -/
def selfTripped : State := (chanUp fun ch => { ch with mode := .openDrive 500, position := 11 }).setWatch 2
  (some { watch .armed (.tripBrake 1) false with subject := .motorPosition 0 })

theorem test_meets_self_trip : (selfTripped.chan 0).kind = .encoded ∧ (selfTripped.chan 0).pendingParams = none ∧
    (∀ j : Fin 8, j ≠ 2 → selfTripped.watch j = none) ∧ selfTripped.inReset = false ∧
    (∀ w ∈ (selfTripped.watch 2).toList, w.state = .armed ∧ w.action = .tripBrake 1 ∧ w.subject = .motorPosition 0 ∧
      conditionHolds w (selfTripped.chan 0).position.toInt = true) ∧ (selfTripped.watch 2).isSome = true ∧
    (1 : BitVec 4).getLsbD (0 : Fin 4).val = true := by decide

/-- The trip holds the very period that measured the position (R79, R123). -/
theorem test_self_trip :
    let t := after (exec (.controlPeriodExpiry 0 0) selfTripped)
    (t.chan 0).mode = .brake ∧ (t.chan 0).duty = 0 ∧ (t.chan 0).tripHolders = 4 := by decide

/-- The candidates of R81 from the first profile example (A = 20, Vmax = 800), and the second worked figure of R85. -/
theorem test_profile_and_regulator :
    profileSpeed 20 800 500 100 = 120 ∧ profileSpeed 20 800 130 20 = 40 ∧ profileSpeed 20 800 100 40 = 40 ∧
    profileSpeed 20 800 70 40 = 40 ∧ profileSpeed 20 800 50 40 = 20 ∧ profileSpeed 20 50 5000 100 = 80 ∧
    (regulate { periodSix with ref := 600, speed := 0, integ := 200000, leff := 1000 }) = (200000, 1000) := by decide

theorem test_meets_motion_stages : periodSix.mode.goal = some 100 ∧ 1 ≤ 1 ∧ ((20 : Int) ≠ 0 ∧ ((0 : Int) = 0 ∨ (0 < (0 : Int) ∧ (20 : Int) < 0))) ∧
    ({ moving with mode := .speed 100, ref := 80 } : Channel).mode = .speed 100 ∧ ((100 : Int) - 80).natAbs ≤ 20 ∧
    ¬((100 : Int) - 79).natAbs ≤ 20 ∧ periodSix.integ.natAbs ≤ 256000 ∧ periodSix.params.acc = 20 := by decide

theorem test_meets_detect : up.inReset = false ∧ (up.port 0).settled = .empty ∧
    ((portUp fun x => { x with candidate := some .smart, debounce := 19 }).port 0).debounce + 1 = 20 ∧
    ((portUp fun x => { x with candidate := some .smart, debounce := 18 }).port 0).debounce + 1 < 20 := by decide

theorem test_meets_analog :
    let s := portUp fun x => { x with state := .analog, settled := .touch, window := List.replicate 8 5000 }
    (up.port 0).state ≠ .analog ∧ (s.port 0).state = .analog ∧ (s.port 0).window = 5000 :: List.replicate 7 5000 ∧
    (∀ b ∈ [Band.generic, .light, .touch],
      let x := (portUp fun x => { x with state := .analog, settled := b, window := List.replicate 7 0 }).port 0;
      x.state = .analog ∧ x.window.length = 7 ∧ x.settled = b) ∧
    ((portUp fun x => { x with state := .analog, window := List.replicate 6 0 }).port 0).window.length < 7 := by decide

theorem test_meets_rate :
    let s := portUp fun x => { x with state := .syncing, measuring := some 5, run := some .r2400 }
    (s.port 0).state = .syncing ∧ (s.port 0).fixedRate = none ∧ (s.port 0).measuring = some 5 ∧
    (s.port 0).run = some .r2400 ∧ (s.port 0).run ≠ some .r9600 ∧
    (97 * 8000000000 ≤ 100 * (3233334 * SensorRate.r2400.bps) ∧ 100 * (3433333 * SensorRate.r2400.bps) ≤ 103 * 8000000000) ∧
    ∀ r ∈ [SensorRate.r2400, .r9600, .r19200, .r57600, .r115200],
      ¬(97 * 8000000000 ≤ 100 * (2000000 * r.bps) ∧ 100 * (2000000 * r.bps) ≤ 103 * 8000000000) := by decide

def oneMode : Descriptor := { typeCode := 0x40, modes := [{ count := 1, format := .s16, scale := 0 }] }

def streaming (bad : Nat) : State := portUp fun x => { x with
  state := .streaming, ready := true, descriptor := some oneMode, currentMode := some 0, consecBad := bad }

/-- Good and bad messages of a streaming port, and values of each format at an end of its range. -/
theorem test_meets_sensor_messages :
    let m : SensorMsg := { header := 0x63, body := [0, 0xFF, 0x38], check := 0xFF ^^^ 0x63 ^^^ 0xFF ^^^ 0x38, stopLow := false }
    let port (md : ModeDesc) : Port := { up.port 0 with
      state := .switching, descriptor := some { typeCode := 0x40, modes := [md, md] },
      switch := some { oldMode := some 0, newMode := 1 } }
    ((streaming 7).port 0).state = .streaming ∧ ({ m with stopLow := true } : SensorMsg).stopLow = true ∧
    ((streaming 6).port 0).consecBad < 7 ∧ 7 ≤ ((streaming 7).port 0).consecBad ∧
    ((streaming 0).port 0).descriptor = some oneMode ∧ ((streaming 0).port 0).currentMode = some 0 ∧
    oneMode.modes[(0 : Byte).toNat]? = some { count := 1, format := .s16, scale := 0 } ∧ m.header.toNat / 32 = 3 ∧
    m.check = (m.header :: m.body).foldl (fun a b => a ^^^ b) 0xFF ∧ oneMode.modes[(1 : Byte).toNat]? = none ∧
    [(1 : Byte)].length ≠ 1 * 2 ∧ (0x25 : Byte).toNat / 32 ≠ 3 ∧
    (port ⟨2, .s8, 0⟩).switch = some { oldMode := some 0, newMode := 1 } ∧
    (∀ f, (port ⟨2, f, 0⟩).descriptor.bind (·.modes[(1 : Byte).toNat]?) = some ⟨2, f, 0⟩) ∧
    m.body = 0 :: [0xFFFFFF38#32].flatMap (fun v => [v.extractLsb' 8 8, v.extractLsb' 0 8]) ∧
    (∀ v ∈ [0xFFFFFF80#32, 127#32], v = (v.extractLsb' 0 8).signExtend 32) ∧
    (∀ v ∈ [0xFFFF8000#32, 32767#32], v = (v.extractLsb' 0 16).signExtend 32) := by
  refine ⟨by decide, by decide, by decide, by decide, by decide, by decide, by decide, by decide, by decide, by decide,
    by decide, by decide, by decide, fun f => by cases f <;> decide, by decide, by simp, by simp⟩

/-- A DESCRIBE of one mode, well formed; one of no modes and a late sync character. -/
theorem test_meets_description :
    let s := portUp fun x => { x with state := .describing, consecBad := 7 }
    let m (body : List Byte) : SensorMsg :=
      { header := 0x23, body := body, check := (0x23 :: body).foldl (fun a b => a ^^^ b) 0xFF, stopLow := false }
    (s.port 0).state = .describing ∧ 7 ≤ (s.port 0).consecBad ∧ (up.port 0).consecBad < 7 ∧
    (m [0x40, 1, 1, 1, 0]).body = 0x40 :: BitVec.ofNat 8 oneMode.modes.length ::
      oneMode.modes.flatMap (fun md => [BitVec.ofNat 8 md.count, md.format.code, BitVec.ofInt 8 md.scale]) ∧
    (∀ md ∈ oneMode.modes, 1 ≤ md.count ∧ md.count ≤ 4 ∧ -4 ≤ md.scale ∧ md.scale ≤ 4) ∧
    (m []).check = ((m []).header :: (m []).body).foldl (fun a b => a ^^^ b) 0xFF ∧ (0x23 : Byte).toNat / 32 = 1 ∧
    ({ m [] with header := 0x55 } : SensorMsg).header = 0x55 ∧ (0x62 : Byte).toNat / 32 ≠ 1 ∧
    ({ m [] with stopLow := true } : SensorMsg).stopLow ≠ false ∧
    ∀ (code n : Byte) (rest : List Byte), (m []).body ≠ code :: n :: rest :=
  ⟨by decide, by decide, by decide, by decide, by decide, by decide, by decide, by decide, by decide, by decide,
    fun _ _ _ h => by cases h⟩

theorem test_meets_port_timers :
    ((portUp fun x => { x with state := .syncing, tx := [.acknowledge] }).port 0).tx = .acknowledge :: [] ∧
    SensorTx.nudge ≠ .acknowledge ∧ ((portUp fun x => { x with nudgeTimer := some 0 }).port 0).nudgeTimer = some 0 ∧
    (up.port 0).nudgeTimer ≠ some 0 ∧ (up.port 0).descTimer ≠ some 0 ∧ (up.port 0).switchTimer ≠ some 0 ∧
    (up.port 0).silenceTimer ≠ some 0 ∧ ((portUp fun x => { x with descTimer := some 0 }).port 0).descTimer = some 0 ∧
    ((portUp fun x => { x with switchTimer := some 0, switch := some { oldMode := none, newMode := 0 } }).port 0).switch =
      some { oldMode := none, newMode := 0 } ∧
    ((portUp fun x => { x with switchTimer := some 0, switch := some { oldMode := some 1, newMode := 0 } }).port 0).switch =
      some { oldMode := some 1, newMode := 0 } ∧
    ((portUp fun x => { x with silenceTimer := some 0, ready := true }).port 0).silenceTimer = some 0 := by decide

theorem test_meets_port_line :
    let x := (portUp fun x => { x with fixedRate := some .r9600, tx := [.nudge] }).port 0
    x.fixedRate = some .r9600 ∧ x.tx = .nudge :: [] ∧ (up.port 0).tx = [] := by decide

/-- The NUDGE message, header 0xC0 and check byte 0x3F, least significant bit first (R102, R177). -/
theorem test_nudge_levels :
    ((portUp fun x => { x with fixedRate := some .r9600, tx := [.nudge] }).port 0).line.levels =
      [false, false, false, false, false, false, false, true, true, true,
       false, true, true, true, true, true, true, false, false, true] := by decide

theorem test_meets_port_requests : 4 < (5 : Byte).toNat ∧ (up.port 0).state ≠ .switching ∧ (up.port 0).state ≠ .streaming ∧
    ((portUp fun x => { x with state := .switching }).port 0).state = .switching ∧
    ((streaming 0).port 0).currentMode = some 0 ∧ oneMode.modes[(1 : Byte).toNat]? = none ∧
    oneMode.modes[(0 : Byte).toNat]? = some { count := 1, format := .s16, scale := 0 } := by decide

theorem test_meets_watch_evaluates : (watch .armed .notify false).condition = .above ∧
    conditionHolds (watch .armed .notify false) (11 : Word).toInt = true ∧
    conditionHolds (watch .armed .notify false) (10 : Word).toInt = false ∧
    releaseTest (watch .fired .notify true) (7 : Word).toInt = true ∧
    releaseTest (watch .fired .notify true) (8 : Word).toInt = false ∧
    (watch .armed (.sendCue 0 3) false).action = .sendCue 0 3 ∧ (watch .armed (.tripCoast 9) false).action = .tripCoast 9 ∧
    (∃ (j : Fin 8) (x : Watch), j ≠ 0 ∧ (up.setWatch j (some x)).watch j = some x ∧ x.state = .tripped ∧ x.action = .fault) ∧
    (∀ j : Fin 8, up.watch j = none) ∧ (up.source 7).condition = false ∧ (up.source 7).state = .inactive ∧
    (up.source 7).grace = 0 ∧ ((sourceUp 7 fun f => { f with reaction := .report }).source 7).reaction = .report ∧
    ((sourceUp 7 fun f => { f with condition := true }).source 7).condition = true :=
  ⟨by decide, by decide, by decide, by decide, by decide, by decide, by decide,
    ⟨1, watch .tripped .fault true, by decide, by decide, by decide, by decide⟩, by decide, by decide, by decide, by decide,
    by decide, by decide⟩

/-- Arguments of SET_WATCH at the ends of their ranges; watches that CLEAR_WATCH and REARM act on or refuse. -/
theorem test_meets_watch_requests :
    let w : RawWatch := { subject := 1, which := 4, valueNumber := 3, condition := 3, lo := 10, hi := 10, hysteresis := 0,
                          action := 3, mask := 0x88, cue := 15 }
    let tripped (last : Bool) : State := up.setWatch 0 (some (watch .tripped (.tripBrake 1) last))
    w.which.toNat = (3 : Fin 4).val + 1 ∧ w.valueNumber.toNat ≤ 3 ∧ w.lo.toInt ≤ w.hi.toInt ∧
    (8 : BitVec 4) = w.mask.extractLsb' 0 4 ∧ (8 : BitVec 4) ≠ 0 ∧ (0 : BitVec 4) = (0xF0 : Byte).extractLsb' 0 4 ∧
    (1 ≤ w.cue.toNat ∧ w.cue.toNat ≤ 15) ∧ (watchedMirror.entry 2).isSome = true ∧ (0 : Byte).toNat ≠ (0 : Fin 4).val + 1 ∧
    3 < (4 : Byte).toNat ∧ (9 : Word).toInt < w.lo.toInt ∧ 7 < (8 : Byte).toNat ∧ (8 : Byte) ≠ 0xFF ∧
    (tripped false).watch 0 = some (watch .tripped (.tripBrake 1) false) ∧ rearmBlocked ((tripped false).watch 0) = false ∧
    rearmable ((tripped false).watch 0) = true ∧ rearmBlocked ((tripped true).watch 0) = true ∧ up.watch 0 = none ∧
    (∀ k : Fin 8, rearmBlocked ((tripped false).watch k) = false) ∧
    ((tripChannel 0 .brake 0 up).chan 0).tripHolders = BitVec.ofNat 8 (2 ^ (0 : Fin 8).val) ∧
    ((tripChannel 0 .brake 0 up).chan 0).mode = .brake ∧ (tripChannel 0 .brake 0 up).fault.halted = false ∧
    ((tripChannel 1 .brake 0 up).chan 0).tripHolders &&& ~~~(BitVec.ofNat 8 (2 ^ (0 : Fin 8).val)) ≠ 0 := by decide

/-- CLEAR_WATCH of a TRIPPED watch lets its channel go. -/
theorem test_clear_tripped_watch :
    let s := (tripChannel 0 .brake 0 up).setWatch 0 (some (watch .tripped (.tripBrake 1) true))
    let t := after (exec (.clearWatch ctx 0xFF) s)
    t.watch 0 = none ∧ (t.chan 0).tripHolders = 0 ∧ (t.chan 0).mode = .hold 0 := by decide

theorem test_meets_player :
    let playing := soundUp fun x => { x with player := .playing, current := some note, count := 1 }
    let gapping := soundUp fun x => { x with player := .gapping, count := 1, queue := [note] }
    up.inReset = false ∧ up.sound.player = .stopped ∧ playing.sound.current = some note ∧ noteSafe note ∧
    playing.sound.master ≤ 15 ∧ playing.sound.count = 1 ∧ 1 ≤ note.gap ∧ gapping.sound.count = 1 ∧
    gapping.sound.stopAtEnd = false ∧ gapping.sound.arm = true ∧ ([] : List Note).length ≤ gapping.sound.mark ∧
    up.sound.queue = [] ∧ gapping.sound.mark < (List.replicate 5 note).length ∧
    noteSafe { note with gap := 0, waveform := .triangle } ∧ ({ note with gap := 0 } : Note).gap = 0 ∧
    note.frequency ≠ 0 ∧ State.reset.inReset = true := by decide

theorem test_meets_sound_requests : up.fault.halted = false ∧ halted.fault.halted = true ∧ up.sound.player = .stopped ∧
    up.sound.queue = [] ∧ up.sound.mark < (List.replicate 5 note).length ∧
    (soundUp fun x => { x with player := .gapping }).sound.player ≠ .stopped ∧
    (soundUp fun x => { x with queue := List.replicate 32 note }).sound.queue.length ≤ 32 ∧
    ∀ n ∈ [({ frequency := 1, duration := 0, volume := 16, waveform := 0, gap := 255 } : RawNote)], n.waveform = 0 := by decide

/-- Notes at and beyond the ends of their ranges, start forms, and cue tables with and without a place for START_SOUND. -/
theorem test_meets_queue_notes :
    let n : RawNote := { frequency := 39, duration := 10001, volume := 16, waveform := 1, gap := 0 }
    let slot : CueEntry := { cue := 3, action := .stopSound .now, keep := false }
    n.waveform.toNat ≤ 1 ∧ 1 < ({ n with waveform := 2 } : RawNote).waveform.toNat ∧ (n.frequency ≠ 0 ∧ n.frequency.toNat < 40) ∧
    10000 < n.duration.toNat ∧ 15 < n.volume.toNat ∧ (0 : BitVec 5).toNat = 0 ∧ 15 < (16 : BitVec 5).toNat ∧
    ¬((3 : BitVec 5).toNat = 0 ∨ 15 < (3 : BitVec 5).toNat) ∧ slot.action.target = CueAction.startSound.target ∧
    16 ≤ fullTable.cue.table.length ∧
    (∀ y ∈ fullTable.cue.table, ¬(y.cue = (4 : BitVec 5).toNat ∧ y.action.target = CueAction.startSound.target)) ∧
    (∀ y ∈ up.cue.table, ¬(y.cue = (3 : BitVec 5).toNat ∧ y.action.target = CueAction.startSound.target)) ∧
    up.cue.table.length < 16 ∧ up.sound.arm = true ∧ ([] : List Note).length ≤ up.sound.mark := by decide

/-- A note brought within its ranges is answered LIMITED, and the take that empties the queue finds the arm set (R127, R134). -/
theorem test_queue_notes_limited :
    let n : RawNote := { frequency := 39, duration := 100, volume := 7, waveform := 1, gap := 0 }
    let s := setRoute .self up
    let t := after (exec (.queueNotes ctx { form := 0, keep := false, cue := 0 } [n]) s)
    t.tablet.reports = [[2, 20, 5, 0, 0, 0, 0, 0, 0], [1, 7, 5, 2, 1, 1]] ∧ t.sound.arm = false := by decide

/-- A window of equal samples, in the supply state given. -/
def supplied (mv : Nat) (st : SupplyState) : State :=
  { up with supply := { up.supply with window := Vector.replicate 16 mv, state := st } }

theorem test_meets_supply :
    (∀ k : Fin 8, up.watch k = none) ∧ (up.source 5).condition = false ∧
    (shiftIn (supplied 5800 .normal).supply.window 5800).toList.sum / 16 = 5800 ∧
    (shiftIn (supplied 5799 .normal).supply.window 5799).toList.sum / 16 = 5799 ∧
    (shiftIn (supplied 6200 .sag).supply.window 6200).toList.sum / 16 = 6200 ∧
    (shiftIn (supplied 6201 .brownout).supply.window 6201).toList.sum / 16 = 6201 ∧
    (up.source 4).condition = false ∧ (up.source 4).state = .inactive ∧ 0 < (up.source 4).grace ∧
    (up.source 4).reaction ≠ .none ∧
    ((sourceUp 4 fun f => { f with grace := 0, reaction := .report }).source 4).grace = 0 ∧
    ((sourceUp 4 fun f => { f with condition := true }).source 4).condition = true ∧
    (shiftIn (supplied 5200 .sag).supply.window 5200).toList.sum / 16 = 5200 ∧
    (shiftIn (supplied 4500 .sag).supply.window 4500).toList.sum / 16 = 4500 ∧
    (shiftIn (supplied 4499 .normal).supply.window 4499).toList.sum / 16 = 4499 ∧
    (shiftIn (supplied 4999 .brownout).supply.window 4999).toList.sum / 16 = 4999 ∧
    (shiftIn (supplied 5399 .sag).supply.window 5399).toList.sum / 16 = 5399 ∧
    (shiftIn (supplied 5400 .sag).supply.window 5400).toList.sum / 16 = 5400 ∧
    ((sourceUp 5 fun f => { f with condition := true }).source 5).condition = true ∧ (up.source 5).reaction ≠ .none ∧
    (up.source 5).state = .inactive ∧ 0 < (up.source 5).grace ∧
    (watch .armed .notify false).subject = .supply ∧
    (∀ j : Fin 8, j ≠ 3 → (up.setWatch 3 (some (watch .armed .notify false))).watch j = none) := by decide

theorem test_meets_fault_sources : (up.source 0).state ≠ .grace ∧ (up.source 0).timer = none ∧
    (∀ r ∈ [Reaction.none, .report, .channelStop, .localHalt, .groupHalt],
      let f := (sourceUp 0 fun f => { f with state := .grace, grace := 500, timer := some 500, reaction := r }).source 0;
      f.state = .grace ∧ f.timer = some 500 ∧ f.grace ≤ 500 ∧ 499 < f.grace ∧ f.reaction = r) ∧
    ({ up.fault with keepTimer := some 0 } : FaultUnit).keepTimer = some 0 ∧
    4 ≤ (4 : Fin 8).val ∧ 9 < (10 : Byte).toNat ∧ up.fault.keepTimer ≠ some 0 ∧
    (∀ r ∈ [Reaction.report, .localHalt], let f := (sourceUp 6 fun f => { f with reaction := r }).source 6;
      f.condition = false ∧ f.state = .inactive ∧ f.grace = 0 ∧ f.reaction = r) ∧
    ((sourceUp 6 fun f => { f with condition := true, state := .latched }).source 6).condition = true := by decide

/-- OVERHEAT with its defaults halts the station when its grace time is spent. -/
theorem test_overheat_halts :
    let s := sourceUp 4 fun f => { f with condition := true, state := .grace, timer := some f.grace }
    let t := after (exec (.graceTimerExpiry 4) s)
    t.fault.halted = true ∧ (t.source 4).state = .latched ∧ (t.chan 3).haltFlag = true := by decide

theorem test_meets_halt_and_clear : ((5 : Byte) ≠ 3 ∧ (5 : Byte) ≠ 4) ∧ 1 < (2 : Byte).toNat ∧
    (∃ k : Fin 8, ((sourceUp 7 fun f => { f with state := .latched, condition := true }).source k).state = .latched ∧
      ((sourceUp 7 fun f => { f with state := .latched, condition := true }).source k).condition = true) ∧
    (∀ k : Fin 8, ((sourceUp 7 fun f => { f with state := .latched }).source k).state = .latched →
      ((sourceUp 7 fun f => { f with state := .latched }).source k).condition = false) := by decide

theorem test_meets_round_trip : (Request.setPublish 100 (List.replicate 54 0x60)).wf = true ∧
    (Request.queueNotes { form := 2, keep := true, cue := 31 } (List.replicate 8
      { frequency := 0, duration := 0, volume := 0, waveform := 0, gap := 0 })).wf = true := by decide

/-- Requests for this station by 0 and by its number, for station 9, and for a number above 14. -/
theorem test_meets_tablet_message : up.tablet.linkUp = true ∧ up.tablet.rx = .hunt ∧ (Request.clearFault).wf = true ∧
    (5 : Byte) = up.link.own.setWidth 8 ∧ (9 : Byte) ≠ 0 ∧ (9 : Byte) ≠ up.link.own.setWidth 8 ∧ (9 : Byte).toNat ≤ 14 ∧
    14 < (15 : Byte).toNat ∧ (15 : Byte) ≠ up.link.own.setWidth 8 ∧ decodeRequest 0 [] = none := by decide

set_option maxRecDepth 4000 in
theorem test_meets_tablet_events : up.tablet.linkUp = true ∧ State.reset.tablet.linkUp = false ∧
    fullReports.tablet.reports = [2, 26, 5, 0, 0, 0, 0, 0, 0] :: fullReports.tablet.reports.drop 1 ∧
    fullReports.tablet.linkUp = true ∧ up.tablet.rx = .hunt ∧ (setRx .length up).tablet.rx ≠ .hunt ∧
    (setRx .length up).tablet.linkUp = true ∧ up.tablet.reports = [] ∧
    (60 : Byte).toNat ≤ 60 ∧ 60 < (61 : Byte).toNat ∧ (60 : Byte) ≠ 0 ∧ [(7 : Byte)].length < (2 : Byte).toNat ∧
    [(7 : Byte)].length = (1 : Byte).toNat ∧ (0 : Byte) ≠ crc8 [1, 7] ∧ (linkFall up).tablet.linkUp = false ∧
    (linkFall up).inReset = false ∧ State.reset.inReset = true ∧ State.reset.tablet.restart = none ∧
    (restartBlocks ctx (linkFall up)).tablet.restart.isSome = true ∧
    (restartBlocks ctx (linkFall up)).tablet.linkUp = false ∧ (restartBlocks ctx (linkFall up)).inReset = true := by decide

theorem test_meets_relays : 40 < (List.replicate 41 (0 : Byte)).length ∧ (List.replicate 40 (0 : Byte)).length ≤ 40 ∧
    State.reset.standalone = true ∧ up.link.present 9 = none ∧ nearNine.standalone = false ∧
    (nearNine.link.present 9).isSome = true ∧ nearNine.tablet.relays.length < 8 ∧ 8 ≤ fullReports.tablet.relays.length ∧
    nearNine.link.queue.length < 7 ∧ nearNine.link.state ≠ .idle ∧
    fullReports.tablet.relays = [0, 1, 2].map (fun i => entry i .queued) ++ entry 3 .queued ::
      [4, 5, 6, 7].map (fun i => entry i .queued) ∧
    (∀ e ∈ fullReports.tablet.relays, ¬(e.status = .sent ∧ e.tag = 7 ∧ e.dest = 9)) ∧
    (∀ r ∈ [entry 0 .queued] ++ [entry 2 .sent], r.id ≠ (entry 1 .sent).id) ∧ (entry 1 .sent).status = .sent ∧
    (∀ r ∈ [entry 0 .queued], ¬(r.status = .sent ∧ r.tag = 7 ∧ r.dest = 9)) ∧ [(1 : Byte), 2].length < 3 ∧
    ({ entry 3 .queued with deadline := 0 } : Relay).deadline = 0 ∧ (entry 3 .queued).deadline ≠ 0 ∧
    (let s := hears 0xA5 [5, 7, 0] nearNine;
      s.link.state = .verdict ∧ (∀ g ∈ s.link.queue, g.contending = false) ∧ (9 : BitVec 4) ≠ s.link.own ∧
      (s.link.present 9).isSome = true ∧ s.link.rxHeld =
        some { claim := BitVec.ofNat 8 (129 + 4 * (9 : BitVec 4).toNat), payload := s.link.own.setWidth 8 :: [7, 0] }) := by
  decide

set_option maxRecDepth 4000 in
/-- A record of one byte 0x01 on the line: sync 0xA5, length, body, check, each least significant bit first (R155, R157). -/
theorem test_tablet_line :
    let s : State := { up with tablet := { up.tablet with reports := [[1]] } }
    s.tablet.line = .sending 115200 ([0xA5, 1, 1, crc8 [1, 1]].map sentByte) ∧
    s.tablet.line.levels.take 20 = [false, true, false, true, false, false, true, false, true, true,
      false, true, false, false, false, false, false, false, false, true] ∧
    (linkFall s).tablet.line = .idle ∧ (linkFall s).tablet.line.levels = [true] := by decide

/-- Thirty-nine segments used, and forty-seven. -/
def used (n : Nat) : List (List Byte) := List.replicate n [2, 26, 5, 0, 0, 0, 0, 0, 0]

theorem test_meets_reports : eventMaskAll.getLsbD EventKind.stationFound.code = true ∧
    (0#32).getLsbD EventKind.stationFound.code = false ∧ up.tablet.lost ≤ 255 ∧ usedSegments (used 39) ≤ 39 ∧
    40 ≤ usedSegments (used 40) ∧ usedSegments (used 44) ≤ 44 ∧ 47 ≤ usedSegments (used 47) ∧ up.tablet.linkUp = true ∧
    State.reset.tablet.linkUp = false ∧ up.tablet.route = .none ∧ (List.replicate 37 (0 : Byte)).length ≤ 37 ∧
    up.standalone = false ∧ up.link.queue.length < 7 ∧ up.link.state ≠ .idle ∧
    (setRoute (.station 9) up).tablet.route = .station 9 ∧ (setRoute (.station 9) up).standalone = false ∧
    8 ≤ (List.replicate 8 cue).length ∧ (∀ g ∈ List.replicate 8 cue, g.isPublish = false) ∧
    (hears 0xA6 [5, 2] nearNine).link.rxHeld =
      some { claim := BitVec.ofNat 8 (130 + 4 * (9 : BitVec 4).toNat), payload := nearNine.link.own.setWidth 8 :: [2] } := by
  decide

theorem test_meets_resets : up.inReset = false ∧ State.reset.inReset = true ∧ State.reset.supply.state = .normal ∧
    5800 ≤ 5800 ∧ (125 : Int) ≤ 125 ∧ (State.reset.source 4).condition = false ∧ (State.reset.source 5).condition = false ∧
    (∀ k : Fin 8, State.reset.watch k = none) ∧ up.tablet.restart = none ∧
    ({ up with tablet := { up.tablet with restart := some ctx } } : State).tablet.restart = some ctx ∧ ctx.dest = .self := by
  decide

end Sys2Proof.Tests
end

section
/-! PROOFS. Listen indexes, and DROP_LISTEN in each of its cases (R31). -/

namespace Sys2Proof.Machine

/-! ## Listen indexes -/

theorem listenOf_eq_none_iff (b : Byte) : listenOf b = none ↔ 15 < b.toNat := by
  rw [listenOf, dite_eq_right_iff]
  constructor
  · intro h
    by_contra hb
    cases h (by omega)
  · intro hb h
    omega

@[simp] theorem listenOf_ofNat (k : Fin 16) : listenOf (BitVec.ofNat 8 k.val) = some k := by
  have hk : (BitVec.ofNat 8 k.val).toNat = k.val := by
    rw [BitVec.toNat_ofNat]
    omega
  simp [listenOf, hk]

/-! ## DROP_LISTEN (R31) -/

section DropListen

variable (h : ReqCtx) (s : State)

theorem exec_dropListen (index : Byte) : exec (.dropListen h index) s = .next (doDropListen h index s) := rfl

theorem doDropListen_of_index_gt {index : Byte} (hi : 15 < index.toNat) :
    doDropListen h index s = answer h .badArg [] s := by
  rw [doDropListen, (listenOf_eq_none_iff index).2 hi]

/-- With a valid index the answer turns on the entry alone, and for a used one on its use count. -/
theorem doDropListen_ofNat (k : Fin 16) : doDropListen h (BitVec.ofNat 8 k.val) s =
    if s.entry k = none then answer h .ok [] s
    else if s.useCount k = 0 then answer h .ok [] (s.setEntry k none)
    else answer h .inUse [] s := by
  rw [doDropListen, listenOf_ofNat]
  cases he : s.entry k with
  | none => simp [he]
  | some e => simp [he]

end DropListen

/-- Settles O27: the index check, then the three cases of an entry: unused, named by a consumer, and free to be emptied. -/
theorem dropListenEmptiesEntry : Obligations.DropListenEmptiesEntry := by
  intro h s
  refine ⟨fun index hi => ?badIndex, fun k => ⟨fun he => ?unused, fun he hu => ?inUse, fun he hu => ?emptied⟩⟩
  case badIndex => rw [exec_dropListen, doDropListen_of_index_gt h s hi]
  case unused => rw [exec_dropListen, doDropListen_ofNat, if_pos he]
  case inUse => rw [exec_dropListen, doDropListen_ofNat, if_neg (Option.isSome_iff_ne_none.1 he), if_neg hu]
  case emptied => rw [exec_dropListen, doDropListen_ofNat, if_neg (Option.isSome_iff_ne_none.1 he), if_pos hu]

end Sys2Proof.Machine
end

section
/-! PROOFS. The entries that a drop leaves, and DROP_CUES in each of its cases (R46). -/

namespace Sys2Proof.Machine

/-! ## The entries that a drop leaves -/

@[simp] theorem undropped_zero (t : List CueEntry) : undropped 0 t = [] := by
  simp [undropped]

theorem undropped_of_pos {n : Nat} (hn : 0 < n) (t : List CueEntry) : undropped n t = t.filter fun e => e.cue ≠ n :=
  List.filter_congr fun e _ => by
    have hne : (n != 0) = true := bne_iff_ne.2 hn.ne'
    rw [hne, Bool.true_and, bne, beq_eq_decide, ← decide_not]

/-- What a drop takes from the table's length is the count of the entries it removes. -/
theorem length_sub_undropped {n : Nat} (hn : 0 < n) (t : List CueEntry) :
    t.length - (undropped n t).length = t.countP fun e => e.cue = n := by
  have split_length := t.length_eq_countP_add_countP fun e : CueEntry => decide (e.cue = n)
  have kept_length : (undropped n t).length = t.countP fun e => ¬ decide (e.cue = n) = true := by
    rw [undropped_of_pos hn, ← List.countP_eq_length_filter]
    simp only [decide_eq_true_eq, ne_eq]
  omega

/-! ## DROP_CUES (R46) -/

section DropCues

variable (h : ReqCtx) (s : State)

theorem exec_dropCues (cue : Byte) : exec (.dropCues h cue) s = .next (doDropCues h cue s) := rfl

theorem doDropCues_of_cue_gt {cue : Byte} (hc : 15 < cue.toNat) : doDropCues h cue s = answer h .badArg [] s :=
  if_pos hc

theorem doDropCues_of_cue_le {cue : Byte} (hc : cue.toNat ≤ 15) : doDropCues h cue s =
    answer h .ok [toByte (s.cue.table.length - (undropped cue.toNat s.cue.table).length)]
      (s.withTable (undropped cue.toNat s.cue.table)) :=
  if_neg (Nat.not_lt.2 hc)

theorem doDropCues_zero :
    doDropCues h 0 s = answer h .ok [BitVec.ofNat 8 s.cue.table.length] (s.withTable []) := by
  rw [doDropCues_of_cue_le h s (by decide)]
  simp [toByte]

theorem doDropCues_of_cue_pos {cue : Byte} (hpos : 1 ≤ cue.toNat) (hc : cue.toNat ≤ 15) : doDropCues h cue s =
    answer h .ok [BitVec.ofNat 8 (s.cue.table.countP fun e => e.cue = cue.toNat)]
      (s.withTable (s.cue.table.filter fun e => e.cue ≠ cue.toNat)) := by
  rw [doDropCues_of_cue_le h s hc, length_sub_undropped hpos, undropped_of_pos hpos, toByte]

end DropCues

/-- Settles O31: the range check, then the two kinds of drop, of the whole table and of one cue number's entries. -/
theorem dropCuesRemovesEntries : Obligations.DropCuesRemovesEntries := by
  intro h cue s
  refine ⟨fun hc => ?badCue, fun hz => ?dropAll, fun hpos hc => ?dropNumber⟩
  case badCue => rw [exec_dropCues, doDropCues_of_cue_gt h s hc]
  case dropAll => rw [hz, exec_dropCues, doDropCues_zero]
  case dropNumber => rw [exec_dropCues, doDropCues_of_cue_pos h s hpos hc]

end Sys2Proof.Machine
end

section
/-! PROOFS. Every command is a run of few kinds of update: the acts, and which of them a licence is needed for. -/

namespace Sys2Proof.Machine

/-! ## The updates of one record -/

/-- What the channel rules make of a channel's record, but for its step count and the last stages of a control period. -/
inductive ChanStep : Channel → Channel → Prop where
  | enter (sp : MotorSetpoint) (x : Channel) :
      x.haltFlag = false → x.tripHolders = 0 → ChanStep x (enterSetpoint sp x)
  | halt (st : Style) (x : Channel) : ChanStep x { enterStop st x with haltFlag := true }
  | trip (st : Style) (b : BitVec 8) (x : Channel) :
      ChanStep x { enterStop st x with tripHolders := x.tripHolders ||| b }
  | release (b : BitVec 8) (x : Channel) : ChanStep x { x with tripHolders := x.tripHolders &&& b }
  | coast (x : Channel) : ChanStep x (enterStop .coast x)
  | config (k : ChanKind) (p : RawParams) (x : Channel) :
      ChanStep x { changeKind k x with pendingParams := some (clampParams p) }
  | wrap (b : BridgePattern) (x : Channel) : ChanStep x { loadCompare x with bridge := b }
  | adopt (x : Channel) : ChanStep x (adoptParams x)
  | measure (x : Channel) : ChanStep x (measure x)
  | held (x : Channel) : ChanStep x (heldStage x)
  | goal (r : FollowRec) (g g' : Word) (x : Channel) :
      x.mode = .follow r g → ChanStep x { x with mode := .follow r g', lapse := false }
  | lapse (x : Channel) : ChanStep x { x with lapse := true }
  | profile (x : Channel) : ChanStep x (profileStage x)
  | settle (n : Nat) (m : Bool) (x : Channel) : n ≤ 20 → ChanStep x { x with settle := n, moveDone := m }
  | ref (x : Channel) : ChanStep x (refStage x)
  | drive (v : Nat) (x : Channel) : ChanStep x (driveStage v x).1

/-- What moves a channel's step count: its encoder and RESET_POSITION (R66, R69). -/
inductive CountStep : Channel → Channel → Prop where
  | lines (a b : Bool) (x : Channel) : CountStep x { x with line1 := a, line2 := b }
  | encoder (a b : Bool) (x : Channel) : CountStep x (encoderStep a b x)
  | shift (v : Word) (x : Channel) : CountStep x (resetPosition v x)

/-- The last stages of a control period, after which alone the duty is within Leff again (R88, R92). -/
inductive DriveStep (sag : Bool) : Channel → Channel → Prop where
  | limit (i : Nat) (x : Channel) : DriveStep sag x (limitStage i sag x)
  | output (u : Int) (x : Channel) : DriveStep sag x (outputStage (clampAbs x.leff u) x)

/-- What the sound rules make of the sound unit's record; notes are queued only while the station is RUNNING. -/
inductive SoundStep (halted : Bool) : Sound → Sound → Prop where
  | stop (x : Sound) : SoundStep halted x (stopPlayer x)
  | stopNow (x : Sound) : SoundStep halted x (stopNow x)
  | action (a : StopArg) (x : Sound) : SoundStep halted x (stopAction a x)
  | brownout (x : Sound) : SoundStep halted x (stopForBrownout x)
  | clear (x : Sound) : SoundStep halted x { Machine.stopNow x with queue := [] }
  | volume (m k : Nat) (x : Sound) :
      m ≤ 15 → k ≤ 31 → SoundStep halted x (setArm { x with master := m, mark := k })
  | queue (ns : List Note) (x : Sound) : halted = false → (∀ n ∈ ns, noteSafe n) → ns.length ≤ 32 - x.queue.length →
      SoundStep halted x (setArm { x with queue := x.queue ++ ns })
  | take (n : Note) (rest : List Note) (arm : Bool) (x : Sound) : x.queue = n :: rest →
      SoundStep halted x { x with
        queue := rest, player := .playing, current := some n, count := 16 * n.duration, phase := 0, arm := arm }
  | play (n : Note) (sag : Bool) (ph : BitVec 24) (c : Nat) (pl : Player) (x : Sound) :
      x.player = .playing → x.current = some n →
      SoundStep halted x { x with
        nextCompare := (250 + noteSample n x.master sag x.phase.toNat).toNat, phase := ph, count := c, player := pl }
  | silent (c : Nat) (x : Sound) : SoundStep halted x { x with nextCompare := 250, count := c }
  | wrap (b : Bool) (x : Sound) : SoundStep halted x { x with runCompare := if b then 250 else x.nextCompare }

/-- What the fault rules make of source k's record (R146, R147). -/
inductive SourceStep (k : Fin 8) : FaultSource → FaultSource → Prop where
  | condition (b : Bool) (f : FaultSource) : SourceStep k f { f with condition := b }
  | latch (f : FaultSource) : SourceStep k f { f with state := .latched, timer := none }
  | grace (f : FaultSource) : SourceStep k f { f with condition := true, state := .grace, timer := some 0 }
  | ease (f : FaultSource) : SourceStep k f { f with condition := false, state := .inactive, timer := none }
  | settings (r : Reaction) (n : Nat) (st : Style) (g : HaltGroups) (f : FaultSource) : reactionFits k r = true →
      n ≤ 2000 → SourceStep k f { f with reaction := r, grace := n, style := st, groups := g }

/-- What makes a listen entry, changes it or empties it (R30 to R33). -/
inductive MirrorStep : Option ListenEntry → Option ListenEntry → Prop where
  | take (e : ListenEntry) (v : Word) :
      MirrorStep (some e) (some { e with value := v, state := .fresh, age := some 0 })
  | make (x : Option ListenEntry) (source : BitVec 4) (item : Byte) (n : Nat) :
      source ≠ 0 → source ≠ 15 → validItem item = true → 20 ≤ n → n ≤ 2000 →
      MirrorStep x (some (newEntry source item n))
  | limit (e : ListenEntry) (n : Nat) : 20 ≤ n → n ≤ 2000 → MirrorStep (some e) (some { e with limit := n })
  | expire (e : ListenEntry) (n : Nat) : 20 ≤ n → n ≤ 2000 →
      MirrorStep (some e) (some { e with limit := n, state := .stale, age := none })
  | drop (x : Option ListenEntry) : MirrorStep x none

/-- What the cue rules make of the cue table (R41, R44, R46, R51). -/
inductive TableStep : List CueEntry → List CueEntry → Prop where
  | keep (t u : List CueEntry) : u.Sublist t → TableStep t u
  | place (e : CueEntry) (t u : List CueEntry) (n : Nat) :
      1 ≤ e.cue → e.cue ≤ 15 → placeEntry e t = some (u, n) → TableStep t u

/-- What the tablet rules make of the tablet port's record, but for placed records. -/
inductive TabletStep : Tablet → Tablet → Prop where
  | lost (n : Nat) (x : Tablet) : TabletStep x { x with lost := satAdd 255 x.lost n }
  | lostZero (x : Tablet) : TabletStep x { x with lost := 0 }
  | receive (rx : TabletRx) (x : Tablet) : TabletStep x { x with rx := rx }
  | bad (x : Tablet) : TabletStep x { x with rx := .hunt, badCount := satAdd 255 x.badCount 1 }
  | route (r : Route) (x : Tablet) : TabletStep x { x with route := r }
  | answered (x : Tablet) : TabletStep x { x with restart := none }
  | mask (m : Word) (x : Tablet) : TabletStep x { x with mask := m &&& eventMaskAll }
  | fall (x : Tablet) : TabletStep x { x with linkUp := false, reports := [], rx := .hunt }
  | up (rx : TabletRx) (x : Tablet) : TabletStep x { x with linkUp := true, rx := rx }
  | sent (x : Tablet) : TabletStep x { x with reports := x.reports.drop 1 }
  | relay (e : Relay) (x : Tablet) : e.id = x.nextRelay → ¬ 8 ≤ x.relays.length →
      TabletStep x { x with relays := x.relays ++ [e], nextRelay := e.id + 1 }
  | unrelay (id : Nat) (x : Tablet) : TabletStep x { x with relays := x.relays.filter fun e => e.id != id }
  | marked (id : Nat) (x : Tablet) : TabletStep x { x with
      relays := x.relays.map fun e => if e.id = id then { e with status := .sent } else e }

/-- The line's events leave the send queue and the held place; where a frame is in contention they leave the station SENDING
or in the VERDICT state (R14, R16). -/
structure LineStep (l m : Link) : Prop where
  own : m.own = l.own
  rate : m.rate = l.rate
  queue : m.queue = l.queue
  held : m.held = l.held
  state : m.state = l.state ∨
    l.state ≠ .offline ∧
      (l.state = .sending ∨ l.state = .verdict → m.state = .sending ∨ m.state = .verdict ∨ l.contender = none)

/-- The frame in contention waits again or leaves the queue; a held PUBLISH frame is not yet settled (R8, R12, R13). -/
structure DetachStep (l m : Link) : Prop where
  own : m.own = l.own
  rate : m.rate = l.rate
  held : m.held = l.held
  online : l.state ≠ .offline
  queue : m.queue = allWaiting l.queue ∨ m.queue = l.queue.eraseP (fun f => f.contending) ∨
    (m.queue = countSpoil l.queue ∧ ∀ f, l.contender = some f → f.spoils + 1 < 8)

/-! ## Acts -/

/-- The updates that need a licence: only the commands named by `Instr.may` perform them. -/
inductive Licence where
  | clear | count | mirror | reset | straps | detach | drive | hold
  deriving DecidableEq

/-- An update of the state that any command may perform. -/
inductive Act : State → State → Prop where
  | chan (s : State) (c : Fin 4) (x : Channel) : ChanStep (s.chan c) x → Act s (s.setChan c x)
  | port (s : State) (p : Fin 4) (x : Port) : Act s (s.setPort p x)
  | watch (s : State) (k : Fin 8) (w : Option Watch) : Act s (s.setWatch k w)
  | source (s : State) (k : Fin 8) (f : FaultSource) : SourceStep k (s.source k) f → Act s (s.setSource k f)
  | sound (s : State) (x : Sound) : SoundStep s.fault.halted s.sound x → Act s (s.withSound x)
  | table (s : State) (t : List CueEntry) : TableStep s.cue.table t → Act s (s.withTable t)
  | groups (s : State) (m : Byte) : Act s { s with cue := { s.cue with membership := m } }
  | publish (s : State) (u : PublishUnit) : Act s { s with publish := u }
  | stale (s : State) (k : Fin 16) (e : ListenEntry) : s.entry k = some e →
      Act s (s.setEntry k (some { e with state := .stale, age := none }))
  | supply (s : State) (x : Supply) : x.state = s.supply.state ∨ x.state ≠ .sag → Act s { s with supply := x }
  | sag (s : State) : Act s (sagAll (s.withSupply .sag))
  | halt (s : State) (st : Style) : Act s (haltStation st s)
  | manual (s : State) (m : Option ManualHalt) : Act s { s with fault := { s.fault with manual := m } }
  | remote (s : State) (st : Style) (r : Option RemoteHalt) :
      Act s { s with fault := { s.fault with remoteStyle := st, remote := r } }
  | keepalive (s : State) (p : Nat) (t : Option Nat) : (t.isSome = true → p ≠ 0) →
      Act s { s with fault := { s.fault with keepPeriod := p, keepTimer := t } }
  | offer (s : State) (o : FrameOwner) (p : List Byte) : o ≠ .publish → Act s (offer o p s).1
  | claim (s : State) : Act s (s.modLink claimStart)
  | line (s : State) (l : Link) : LineStep s.link l → Act s { s with link := l }
  | withdraw (s : State) (id : Nat) : Act s (withdraw id s)
  | record (s : State) (n c : Nat) (b : List Byte) : 1 ≤ n → b.length ≤ 60 → s.tablet.linkUp = true →
      Act s (placeRecord n c b s)
  | tablet (s : State) (t : Tablet) : TabletStep s.tablet t → Act s { s with tablet := t }
  | tick (s : State) : Act s (tick s)

/-- An update of the state that needs a licence. -/
inductive Deed : Licence → State → State → Prop where
  | clear (s : State) : Deed .clear s (clearFaults s)
  | count (s : State) (c : Fin 4) (x : Channel) : CountStep (s.chan c) x → Deed .count s (s.setChan c x)
  | mirror (s : State) (k : Fin 16) (x : Option ListenEntry) : MirrorStep (s.entry k) x →
      Deed .mirror s (s.setEntry k x)
  | reset (s : State) : Deed .reset s (resetBlocks s)
  | restart (s : State) (h : ReqCtx) : Deed .reset s (restartBlocks h s)
  | straps (s : State) (p : Straps) : Deed .straps s { s with inReset := false, straps := p, link := linkStart p }
  | detach (s : State) (l : Link) : DetachStep s.link l → Deed .detach s { s with link := l }
  | drive (s : State) (c : Fin 4) (x : Channel) : DriveStep (s.supply.state == .sag) (s.chan c) x →
      Deed .drive s (s.setChan c x)
  | publish (s : State) (p : List Byte) : Deed .hold s (offer .publish p s).1
  | unheld (s : State) : Deed .hold s { s with link := { s.link with held := none } }

/-- A run of acts, and of deeds that have a licence in L. -/
inductive Acts (L : Licence → Prop) : State → State → Prop where
  | refl (s : State) : Acts L s s
  | act {s t u : State} : Act s t → Acts L t u → Acts L s u
  | deed {s t u : State} {k : Licence} : L k → Deed k s t → Acts L t u → Acts L s u

/-- A property that acts and licensed deeds keep is kept by their runs. -/
theorem Acts.induct {L : Licence → Prop} {P : State → Prop} {s t : State} (h : Acts L s t)
    (act : ∀ {s t}, Act s t → P s → P t) (deed : ∀ {k s t}, L k → Deed k s t → P s → P t) (hs : P s) : P t := by
  induction h with
  | refl s => exact hs
  | act ha _ ih => exact ih (act ha hs)
  | deed hk hd _ ih => exact ih (deed hk hd hs)

theorem Acts.trans {L : Licence → Prop} {s t u : State} (a : Acts L s t) (b : Acts L t u) : Acts L s u := by
  induction a with
  | refl s => exact b
  | act ha _ ih => exact .act ha (ih b)
  | deed hk hd _ ih => exact .deed hk hd (ih b)

theorem Acts.mono {L M : Licence → Prop} (hLM : ∀ k, L k → M k) {s t : State} (a : Acts L s t) : Acts M s t := by
  induction a with
  | refl s => exact .refl s
  | act ha _ ih => exact .act ha ih
  | deed hk hd _ ih => exact .deed (hLM _ hk) hd ih

theorem Act.acts {L : Licence → Prop} {s t : State} (a : Act s t) : Acts L s t := .act a (.refl t)

theorem Deed.acts {L : Licence → Prop} {k : Licence} {s t : State} (d : Deed k s t) (hk : L k) : Acts L s t :=
  .deed hk d (.refl t)

theorem Acts.forEach {α : Type} {L : Licence → Prop} {f : α → State → State} (l : List α)
    (h : ∀ a ∈ l, ∀ s, Acts L s (f a s)) (s : State) : Acts L s (forEach l f s) :=
  forEach_induct (P := Acts L s) l (fun a ha t ht => ht.trans (h a ha t)) (.refl s)

end Sys2Proof.Machine
end

section
/-! PROOFS. The operations of the units as runs of acts: events, answers, faults, sound, watches, cues, motion, supply. -/

namespace Sys2Proof.Machine

variable {L : Licence → Prop}

/-! ## Records, events and answers -/

theorem addLost_acts (n : Nat) (s : State) : Acts L s (addLost n s) := (Act.tablet s _ (.lost n _)).acts

theorem length_take_append_le {α : Type} (a : List α) (b : List α) (n : Nat) :
    (a ++ b.take n).length ≤ a.length + n := by
  rw [List.length_append, List.length_take]
  omega

theorem placeRecord_acts {n c : Nat} {b : List Byte} {s : State} (hn : 1 ≤ n) (hb : b.length ≤ 60)
    (hup : s.tablet.linkUp = true) : Acts L s (placeRecord n c b s) := (Act.record s n c b hn hb hup).acts

theorem placeAnswer_acts {body : List Byte} (hb : body.length ≤ 60) (s : State) : Acts L s (placeAnswer body s) := by
  unfold placeAnswer
  split
  · rename_i hup
    exact (Act.record s 1 0 body (Nat.le_refl 1) hb hup).acts
  · exact .refl s

theorem length_answerBody_le (tag station : Byte) (r : Result) (d : List Byte) :
    (answerBody tag station r d).length ≤ 60 :=
  length_take_append_le [1, tag, station, r.code] d 56

theorem length_eventBody (k o b : Byte) (a : Word) (n : Nat) : (eventBody k o b a n).length = 9 := rfl

theorem offer_acts (o : FrameOwner) (p : List Byte) (s : State) (ho : o ≠ .publish := by nofun) :
    Acts L s (offer o p s).1 := (Act.offer s o p ho).acts

theorem routeEvent_acts (k b : Byte) (a : Word) (n : Nat) (s : State) : Acts L s (routeEvent k b a n s) := by
  unfold routeEvent
  split
  · exact addLost_acts n s
  · split
    · rename_i hup
      exact (Act.record s 8 n _ (by decide) (by rw [length_eventBody]; decide) hup).acts
    · exact addLost_acts n s
  · simp only
    split
    · exact offer_acts _ _ s
    · exact (offer_acts _ _ s).trans (addLost_acts _ _)

theorem raiseEvent_acts (k : EventKind) (b : Byte) (a : Word) (s : State) : Acts L s (raiseEvent k b a s) := by
  unfold raiseEvent
  split
  · exact (Act.tablet s _ (.lostZero _)).acts.trans (routeEvent_acts _ _ _ _ _)
  · exact .refl s

theorem answer_acts (h : ReqCtx) (r : Result) (d : List Byte) (s : State) : Acts L s (answer h r d s) := by
  unfold answer
  split
  · exact placeAnswer_acts (length_answerBody_le _ _ _ _) s
  · simp only
    split
    · exact offer_acts _ _ s
    · exact (offer_acts _ _ s).trans (addLost_acts _ _)

/-! ## Single updates -/

theorem modChan_acts {c : Fin 4} {f : Channel → Channel} {s : State} (h : ChanStep (s.chan c) (f (s.chan c))) :
    Acts L s (s.modChan c f) := (Act.chan s c _ h).acts

theorem setChan_acts {c : Fin 4} {x : Channel} {s : State} (h : ChanStep (s.chan c) x) : Acts L s (s.setChan c x) :=
  (Act.chan s c x h).acts

theorem modPort_acts (p : Fin 4) (f : Port → Port) (s : State) : Acts L s (s.modPort p f) := (Act.port s p _).acts

theorem setPort_acts (p : Fin 4) (x : Port) (s : State) : Acts L s (s.setPort p x) := (Act.port s p x).acts

theorem setWatch_acts (k : Fin 8) (w : Option Watch) (s : State) : Acts L s (s.setWatch k w) := (Act.watch s k w).acts

theorem withSound_acts {x : Sound} {s : State} (h : SoundStep s.fault.halted s.sound x) : Acts L s (s.withSound x) :=
  (Act.sound s x h).acts

theorem setSource_acts {k : Fin 8} {f : FaultSource} {s : State} (h : SourceStep k (s.source k) f) :
    Acts L s (s.setSource k f) := (Act.source s k f h).acts

theorem setTablet_acts {t : Tablet} {s : State} (h : TabletStep s.tablet t) : Acts L s { s with tablet := t } :=
  (Act.tablet s t h).acts

theorem setSource_setSource (k : Fin 8) (f g : FaultSource) (s : State) :
    (s.setSource k f).setSource k g = s.setSource k g := by
  simp [State.setSource]

theorem setChan_setChan (c : Fin 4) (x y : Channel) (s : State) : (s.setChan c x).setChan c y = s.setChan c y := by
  simp [State.setChan]

/-! ## Faults (R147 to R149) -/

theorem haltStation_acts (st : Style) (s : State) : Acts L s (haltStation st s) := (Act.halt s st).acts

theorem haltChannel_acts (c : Fin 4) (st : Style) (s : State) : Acts L s (haltChannel c st s) :=
  modChan_acts (.halt st _)

theorem react_acts (cause : Byte) (c : Option (Fin 4)) (r : Reaction) (st : Style) (g : HaltGroups) (s : State) :
    Acts L s (react cause c r st g s) := by
  unfold react
  split
  · exact .refl s
  · exact .refl s
  · split
    · exact haltChannel_acts _ st s
    · exact .refl s
  · exact haltStation_acts st s
  · exact (haltStation_acts st s).trans (offer_acts _ _ _)

theorem sourceEvent_acts (e : EventKind) (k : Fin 8) (a : Word) (s : State) : Acts L s (sourceEvent e k a s) := by
  unfold sourceEvent
  split
  · exact .refl s
  · exact raiseEvent_acts _ _ _ s

theorem latch_acts (k : Fin 8) (s : State) : Acts L s (latch k s) :=
  (setSource_acts (.latch _)).trans ((sourceEvent_acts _ k _ _).trans (react_acts _ _ _ _ _ _))

theorem conditionBegin_acts (k : Fin 8) (s : State) : Acts L s (conditionBegin k s) := by
  unfold conditionBegin
  simp only
  split
  · split
    · rw [setSource_setSource]
      exact (setSource_acts (.grace _)).trans (sourceEvent_acts _ k _ _)
    · exact (setSource_acts (.condition true _)).trans (latch_acts k _)
  · exact setSource_acts (.condition true _)

theorem conditionEnd_acts (k : Fin 8) (s : State) : Acts L s (conditionEnd k s) := by
  unfold conditionEnd
  simp only
  split
  · exact (setSource_acts (.ease _)).trans (sourceEvent_acts _ k _ _)
  · exact setSource_acts (.condition false _)

theorem tellCondition_acts (k : Fin 8) (b : Bool) (s : State) : Acts L s (tellCondition k b s) := by
  unfold tellCondition
  split
  · exact conditionBegin_acts k s
  · exact conditionEnd_acts k s
  · exact .refl s

theorem keepStart_isSome {p : Nat} (h : (keepStart p).isSome = true) : p ≠ 0 := by
  rintro rfl
  cases h

theorem restartKeepalive_acts (s : State) : Acts L s (restartKeepalive s) :=
  (Act.keepalive s _ _ keepStart_isSome).acts.trans (tellCondition_acts _ _ _)

/-! ## Sound (R130, R131) -/

theorem takeNote_acts {n : Note} {rest : List Note} {s : State} (h : s.sound.queue = n :: rest) :
    Acts L s (takeNote n rest s) := by
  unfold takeNote
  simp only
  split
  · exact (withSound_acts (.take n rest false _ h)).trans (raiseEvent_acts _ _ _ _)
  · exact withSound_acts (.take n rest s.sound.arm _ h)

theorem soundDone_acts (s : State) : Acts L s (soundDone s) := raiseEvent_acts _ _ _ s

theorem startAction_acts (s : State) : Acts L s (startAction s) := by
  unfold startAction
  split
  · rename_i hq
    exact takeNote_acts hq
  · exact soundDone_acts s
  · exact .refl s

theorem gapEnd_acts (s : State) : Acts L s (gapEnd s) := by
  unfold gapEnd
  split
  · exact (withSound_acts (.stop _)).trans (soundDone_acts _)
  · split
    · rename_i hq
      exact takeNote_acts hq
    · exact (withSound_acts (.stop _)).trans (soundDone_acts _)

theorem playSample_acts {n : Note} {s : State} (hp : s.sound.player = .playing) (hn : s.sound.current = some n) :
    Acts L s (playSample n s) := by
  unfold playSample
  simp only
  split
  · split
    · exact (withSound_acts (.play n _ _ _ _ _ hp hn)).trans (gapEnd_acts _)
    · exact withSound_acts (.play n _ _ _ _ _ hp hn)
  · have := withSound_acts (L := L) (.play n (s.supply.state == .sag)
      (s.sound.phase + BitVec.ofNat 24 (phaseIncrement n.frequency)) (s.sound.count - 1) .playing _ hp hn)
    rwa [← hp] at this

theorem gapSample_acts (s : State) : Acts L s (gapSample s) := by
  unfold gapSample
  simp only
  split
  · exact (withSound_acts (.silent _ _)).trans (gapEnd_acts _)
  · exact withSound_acts (.silent _ _)

theorem sampleStep_acts (s : State) : Acts L s (sampleStep s) := by
  unfold sampleStep
  split
  · rename_i hp hn
    exact playSample_acts hp hn
  · exact gapSample_acts s
  · exact withSound_acts (.silent s.sound.count _)

/-! ## Watches let go (R74, R118, R124) -/

theorem releaseChannel_acts (k : Fin 8) (c : Fin 4) (s : State) : Acts L s (releaseChannel k c s) := by
  unfold releaseChannel
  simp only
  split
  · rename_i hc
    obtain ⟨-, hleft, -, hflag, -⟩ := hc
    rw [← setChan_setChan c { s.chan c with tripHolders := (s.chan c).tripHolders &&& ~~~ holderBit k }]
    refine (setChan_acts (.release _ _)).trans (setChan_acts ?_)
    rw [chan_setChan_self]
    exact .enter .hold _ hflag hleft
  · exact setChan_acts (.release _ _)

theorem releaseHolds_acts (k : Fin 8) (a : WatchAction) (s : State) : Acts L s (releaseHolds k a s) := by
  unfold releaseHolds
  split
  · exact .forEach _ (fun c _ t => releaseChannel_acts k c t) s
  · exact .forEach _ (fun c _ t => releaseChannel_acts k c t) s
  · split
    · exact .refl s
    · exact tellCondition_acts _ _ s
  · exact .refl s

theorem rearmWatch_acts (k : Fin 8) (w : Watch) (s : State) : Acts L s (rearmWatch k w s) := by
  unfold rearmWatch
  simp only
  split
  · exact (setWatch_acts k _ s).trans (releaseHolds_acts k _ _)
  · exact setWatch_acts k _ s

theorem rearmIf_acts (k : Fin 8) (s : State) : Acts L s (rearmIf k s) := by
  unfold rearmIf
  split
  · split
    · exact rearmWatch_acts k _ s
    · exact .refl s
  · exact .refl s

theorem rearmAll_acts (s : State) : Acts L s (rearmAll s) := .forEach all8 (fun k _ t => rearmIf_acts k t) s

theorem clearWatch_acts (k : Fin 8) (s : State) : Acts L s (clearWatch k s) := by
  unfold clearWatch
  split
  · refine Acts.trans (t := if _ then _ else _) ?_ (setWatch_acts k none _)
    split
    · exact releaseHolds_acts k _ s
    · exact .refl s
  · exact .refl s

theorem takeSnapshots_acts (s : State) : Acts L s (takeSnapshots s) :=
  .forEach all4 (fun p _ t => modPort_acts p _ t) s

/-! ## Cues (R51 to R56) -/

/-- A channel that passes the checks of a motor request is held by no halt and no watch. -/
theorem channelCheck_eq_none {c : Fin 4} {sp : MotorSetpoint} {s : State} (h : channelCheck c sp s = none) :
    s.fault.halted = false ∧ (s.chan c).haltFlag = false ∧ (s.chan c).tripHolders = 0 ∧
      ¬((s.chan c).kind = .plain ∧ sp.needsEncoder = true) := by
  unfold channelCheck at h
  split at h
  · cases h
  · rename_i hhalted
    split at h
    · cases h
    · rename_i hflag
      split at h
      · cases h
      · rename_i hholders
        split at h
        · cases h
        · rename_i hkind
          exact ⟨Bool.eq_false_iff.2 hhalted, Bool.eq_false_iff.2 hflag, not_not.1 hholders, hkind⟩

theorem enterSetpoint_acts {c : Fin 4} {sp sp' : MotorSetpoint} {s : State} (h : channelCheck c sp s = none) :
    Acts L s (s.modChan c (enterSetpoint sp')) := by
  obtain ⟨-, hflag, hholders, -⟩ := channelCheck_eq_none h
  exact modChan_acts (.enter _ _ hflag hholders)

theorem applyAction_acts {a : CueAction} {s t : State} (h : applyAction a s = .ok t) : Acts L s t := by
  unfold applyAction at h
  split at h
  · split at h
    · cases h
    · rename_i hc
      split at h
      · split at h
        · cases h
        · cases h; exact enterSetpoint_acts hc
      · cases h; exact enterSetpoint_acts hc
  · split at h
    · cases h
    · cases h; exact startAction_acts s
  · split at h
    · cases h
    · cases h; exact withSound_acts (.action _ _)
  · cases h; exact takeSnapshots_acts s
  · cases h; exact rearmAll_acts s

theorem applyEntries_acts (n : Nat) (t : List CueEntry) (s : State) : Acts L s (applyEntries n t s).1 := by
  induction t generalizing s with
  | nil => exact .refl s
  | cons e es ih =>
    unfold applyEntries
    split
    · split
      · rename_i h; exact (applyAction_acts h).trans (ih _)
      · exact (raiseEvent_acts _ _ _ s).trans (ih _)
    · exact ih s

theorem withTable_acts {t : List CueEntry} {s : State} (h : TableStep s.cue.table t) : Acts L s (s.withTable t) :=
  (Act.table s t h).acts

theorem withTable_filter_acts (p : CueEntry → Bool) (s : State) : Acts L s (s.withTable (s.cue.table.filter p)) :=
  (Act.table s _ (.keep _ _ List.filter_sublist)).acts

theorem takeCue_acts (n : Nat) (s : State) : Acts L s (takeCue n s) :=
  (applyEntries_acts n _ s).trans ((withTable_filter_acts _ _).trans (raiseEvent_acts _ _ _ _))

theorem takeCueFrame_acts (p : List Byte) (s : State) : Acts L s (takeCueFrame p s) := by
  unfold takeCueFrame
  split
  · split
    · exact takeCue_acts _ s
    · exact .refl s
  · exact .refl s

/-! ## Watches evaluated (R119 to R123) -/

theorem watchCue_acts (k : Fin 8) (m c : Byte) (s : State) : Acts L s (watchCue k m c s) := by
  unfold watchCue
  simp only
  split
  · exact takeCueFrame_acts _ s
  · split
    · exact offer_acts _ _ s
    · exact (offer_acts _ _ s).trans (raiseEvent_acts _ _ _ _)

theorem watchAct_acts (k : Fin 8) (a : WatchAction) (s : State) : Acts L s (watchAct k a s) := by
  unfold watchAct
  split
  · exact .refl s
  · exact watchCue_acts k _ _ s
  · exact withSound_acts (.stopNow _)
  · exact .forEach _ (fun c _ t => modChan_acts (.trip .brake (holderBit k) _)) s
  · exact .forEach _ (fun c _ t => modChan_acts (.trip .coast (holderBit k) _)) s
  · split
    · exact .refl s
    · exact tellCondition_acts _ _ s

theorem watchFire_acts (k : Fin 8) (w : Watch) (v : Word) (s : State) : Acts L s (watchFire k w v s) := by
  unfold watchFire
  split <;> exact (setWatch_acts k _ s).trans ((raiseEvent_acts _ _ _ _).trans (watchAct_acts k _ _))

theorem evaluate_acts (k : Fin 8) (w : Watch) (v : Word) (s : State) : Acts L s (evaluate k w v s) := by
  unfold evaluate
  split
  · split
    · exact watchFire_acts k w v s
    · exact setWatch_acts k _ s
  · split
    · split <;> exact setWatch_acts k _ s
    · exact setWatch_acts k _ s

theorem evaluateAt_acts (u : Update) (k : Fin 8) (s : State) : Acts L s (evaluateAt u k s) := by
  unfold evaluateAt
  split
  · split
    · split
      · exact evaluate_acts k _ _ s
      · exact .refl s
    · exact .refl s
  · exact .refl s

theorem watchUpdate_acts (u : Update) (s : State) : Acts L s (watchUpdate u s) :=
  .forEach all8 (fun k _ t => evaluateAt_acts u k t) s

/-! ## The control period but for its last stages (R77 to R86) -/

theorem measureStage_acts (c : Fin 4) (s : State) : Acts L s (measureStage c s) := by
  unfold measureStage
  simp only
  split
  · exact (modChan_acts (.measure _)).trans (watchUpdate_acts _ _)
  · exact modChan_acts (.measure _)

theorem sampleStages_acts (c : Fin 4) (s : State) : Acts L s (sampleStages c s) :=
  (modChan_acts (.adopt _)).trans (measureStage_acts c _)

theorem followStage_acts (c : Fin 4) (s : State) : Acts L s (followStage c s) := by
  unfold followStage
  split
  · rename_i r g hm
    split
    · exact modChan_acts (.goal r g _ _ hm)
    · split
      · exact .refl s
      · exact (modChan_acts (.lapse _)).trans (raiseEvent_acts _ _ _ _)
  · exact .refl s

theorem settleStage_acts (c : Fin 4) (s : State) : Acts L s (settleStage c s) := by
  unfold settleStage
  simp only
  split
  · rename_i g hm
    have hn : (if settled g (s.chan c) then min 20 ((s.chan c).settle + 1) else 0) ≤ 20 := by
      split
      · exact Nat.min_le_left _ _
      · exact Nat.zero_le 20
    generalize (if settled g (s.chan c) then min 20 ((s.chan c).settle + 1) else 0) = n at hn ⊢
    split
    · exact (setChan_acts (.settle _ _ _ hn)).trans (raiseEvent_acts _ _ _ _)
    · exact setChan_acts (.settle _ (s.chan c).moveDone _ hn)
  · exact .refl s

theorem driveStages_acts (c : Fin 4) (s : State) : Acts L s (driveStages c s).1 := by
  have hmid : Acts L s (settleStage c ((followStage c s).modChan c profileStage)) :=
    (followStage_acts c s).trans ((modChan_acts (.profile _)).trans (settleStage_acts c _))
  refine hmid.trans ?_
  unfold driveStages
  simp only
  rw [← setChan_setChan c (refStage _)]
  refine (setChan_acts (.ref _)).trans (setChan_acts ?_)
  rw [chan_setChan_self]
  exact .drive _ _

theorem middleStages_acts (c : Fin 4) (s : State) : Acts L s (middleStages c s).1 := by
  unfold middleStages
  split
  · exact modChan_acts (.held _)
  · exact driveStages_acts c s

/-! ## Supply (R142 to R145) -/

theorem setSupply_acts {x : Supply} {s : State} (h : x.state = s.supply.state ∨ x.state ≠ .sag) :
    Acts L s { s with supply := x } := (Act.supply s x h).acts

theorem endBrownout_acts (s : State) : Acts L s (endBrownout s) := by
  unfold endBrownout
  exact Acts.trans (t := coastAll s) (.forEach all4 (fun c _ t => modChan_acts (.coast _)) s) (withSound_acts (.stopNow _))

theorem changeSupply_acts (new : SupplyState) (v : Nat) (s : State) :
    Acts L s (changeSupply s.supply.state new v s) := by
  have enter (x : SupplyState) (hx : x = s.supply.state ∨ x ≠ .sag) : Acts L s (s.withSupply x) := setSupply_acts hx
  unfold changeSupply
  simp only
  split
  · exact (Act.sag s).acts.trans (raiseEvent_acts _ _ _ _)
  · exact (enter .brownout (.inr nofun)).trans ((withSound_acts (.brownout _)).trans (raiseEvent_acts _ _ _ _))
  · exact (enter .brownout (.inr nofun)).trans ((withSound_acts (.brownout _)).trans (raiseEvent_acts _ _ _ _))
  · exact (enter .normal (.inr nofun)).trans (raiseEvent_acts _ _ _ _)
  · exact (endBrownout_acts s).trans ((Act.sag (endBrownout s)).acts.trans (raiseEvent_acts _ _ _ _))
  · exact (enter .normal (.inr nofun)).trans
      ((endBrownout_acts _).trans ((raiseEvent_acts _ _ _ _).trans (raiseEvent_acts _ _ _ _)))
  · rename_i target _ _ hns _ _ _ hbs _
    refine enter target ?_
    by_cases hsag : target = .sag
    · cases hold : s.supply.state with
      | normal => exact (hns hold hsag).elim
      | sag => exact .inl hsag
      | brownout => exact (hbs hold hsag).elim
    · exact .inr hsag

theorem vbatStep_acts (s : State) : Acts L s (vbatStep s) :=
  (changeSupply_acts _ _ s).trans ((tellCondition_acts _ _ _).trans (watchUpdate_acts _ _))

theorem temperatureStep_acts (deg : Int) (s : State) : Acts L s (temperatureStep deg s) :=
  Acts.trans (t := { s with supply := { s.supply with temperature := deg } }) (setSupply_acts (.inl rfl))
    (tellCondition_acts _ _ _)

end Sys2Proof.Machine
end

section
/-! PROOFS. Every command as a run of acts and of the deeds it has a licence for. -/

namespace Sys2Proof.Machine

/-- A command inside which a request may be executed (R158, R160). -/
def carries (c : Instr) : Prop := c = .frameDelivered ∨ ∃ b, c = .tabletMessage b

/-- The commands that may end a frame's contention with the frame in the queue or spent. -/
def detaches (c : Instr) : Prop :=
  c = .contentionLoss ∨ c = .bitClash ∨ c = .frameDelivered ∨ c = .frameSpoiled ∨ c = .lineStuck

/-- The deeds a command has a licence for. -/
def may (c : Instr) (k : Licence) : Prop :=
  match k with
  | .clear => carries c ∨ ∃ h, c = .clearFault h
  | .count => carries c ∨ (∃ h ch v, c = .resetPosition h ch v) ∨ ∃ ch a b, c = .encoderTransition ch a b
  | .mirror => carries c ∨ (∃ h i x y z, c = .setListen h i x y z) ∨ ∃ h i, c = .dropListen h i
  | .reset => carries c ∨ c = .coldReset ∨ ∃ h, c = .restart h
  | .straps => ∃ p b d up, c = .resetEnd p b d up
  | .detach => detaches c
  | .drive => ∃ ch i, c = .controlPeriodExpiry ch i
  | .hold => c = .publishTimerExpiry ∨ detaches c

variable {L : Licence → Prop}

/-! ## Requests without a licence -/

theorem doConfigMotor_acts (h : ReqCtx) (ch kind : Byte) (p : RawParams) (s : State) :
    Acts L s (doConfigMotor h ch kind p s) := by
  unfold doConfigMotor
  split
  · split
    · exact answer_acts _ _ _ s
    · exact (modChan_acts (.config _ p _)).trans (answer_acts _ _ _ _)
  · exact answer_acts _ _ _ s

theorem clampN_bounds {lo hi : Nat} (h : lo ≤ hi) (x : Nat) : lo ≤ clampN lo hi x ∧ clampN lo hi x ≤ hi := by
  unfold clampN
  split
  · omega
  · split <;> omega

theorem doClearSound_acts (h : ReqCtx) (s : State) : Acts L s (doClearSound h s) := by
  unfold doClearSound
  split
  · exact answer_acts _ _ _ s
  · exact (withSound_acts (.clear _)).trans (answer_acts _ _ _ _)

theorem doSetVolume_acts (h : ReqCtx) (m k : Byte) (s : State) : Acts L s (doSetVolume h m k s) :=
  (withSound_acts (.volume _ _ _ (clampN_bounds (Nat.zero_le 15) _).2 (clampN_bounds (Nat.zero_le 31) _).2)).trans
    (answer_acts _ _ _ _)

theorem doConfigFault_acts (h : ReqCtx) (source reaction : Byte) (grace : Half) (style form mask : Byte) (s : State) :
    Acts L s (doConfigFault h source reaction grace style form mask s) := by
  unfold doConfigFault
  split
  · exact answer_acts _ _ _ s
  · split
    · exact answer_acts _ _ _ s
    · rename_i st _
      split
      · exact (Act.remote s st s.fault.remote).acts.trans (answer_acts _ _ _ _)
      · rename_i k _
        split
        · rename_i r g _ _
          split
          · rename_i hfits
            have stored : Acts L s (storeSettings k r (min 2000 grace.toNat) st g s) := by
              have set := setSource_acts (L := L)
                (SourceStep.settings r (min 2000 grace.toNat) st g (s.source k) hfits (Nat.min_le_left _ _))
              unfold storeSettings
              simp only
              split
              · exact set.trans (latch_acts k _)
              · exact set
            exact stored.trans (answer_acts _ _ _ _)
          · exact answer_acts _ _ _ s
        · exact answer_acts _ _ _ s

theorem doHalt_acts (h : ReqCtx) (reaction style form mask : Byte) (s : State) :
    Acts L s (doHalt h reaction style form mask s) := by
  unfold doHalt
  split
  · exact Acts.trans
      ((Act.manual s _).acts.trans ((raiseEvent_acts _ _ _ _).trans (react_acts _ _ _ _ _ _)))
      (answer_acts _ _ _ _)
  · exact answer_acts _ _ _ s

theorem keepPeriodOf_start (p : Nat) : (keepStart (keepPeriodOf p)).isSome = true → keepPeriodOf p ≠ 0 := keepStart_isSome

theorem doSetKeepalive_acts (h : ReqCtx) (p : Half) (s : State) : Acts L s (doSetKeepalive h p s) :=
  (Act.keepalive s _ _ keepStart_isSome).acts.trans (answer_acts _ _ _ _)

theorem stage_acts (h : ReqCtx) {cue : Byte} (keep : Bool) (a : CueAction) (b : Bool) (s : State) (h0 : cue ≠ 0)
    (h15 : ¬ 15 < cue.toNat) : Acts L s (stage h cue keep a b s) := by
  have hpos : 1 ≤ cue.toNat := Nat.one_le_iff_ne_zero.2 fun h => h0 (BitVec.eq_of_toNat_eq h)
  unfold stage
  split
  · rename_i t pos hp
    exact (Act.table s t (.place _ _ _ pos hpos (Nat.not_lt.1 h15) hp)).acts.trans (answer_acts _ _ _ _)
  · exact answer_acts _ _ _ s

theorem setMotorNow_acts (h : ReqCtx) (c : Fin 4) (sp : MotorSetpoint) (s : State) : Acts L s (setMotorNow h c sp s) := by
  unfold setMotorNow
  split
  · exact answer_acts _ _ _ s
  · rename_i hc
    exact (enterSetpoint_acts hc).trans (answer_acts _ _ _ _)

theorem doSetMotor_acts (h : ReqCtx) (ch mode : Byte) (value : Word) (cue : Byte) (keep : Bool) (s : State) :
    Acts L s (doSetMotor h ch mode value cue keep s) := by
  unfold doSetMotor
  split
  · split
    · exact answer_acts _ _ _ s
    · split
      · exact setMotorNow_acts _ _ _ s
      · exact stage_acts _ _ _ _ s ‹_› ‹_›
  · exact answer_acts _ _ _ s

theorem setFollowNow_acts (h : ReqCtx) (c : Fin 4) (r : FollowRec) (s : State) : Acts L s (setFollowNow h c r s) := by
  unfold setFollowNow
  split
  · exact answer_acts _ _ _ s
  · rename_i hc
    exact (enterSetpoint_acts hc).trans (answer_acts _ _ _ _)

theorem doSetFollow_acts (h : ReqCtx) (ch : Byte) (f : RawFollow) (cue : Byte) (keep : Bool) (s : State) :
    Acts L s (doSetFollow h ch f cue keep s) := by
  unfold doSetFollow
  split
  · exact answer_acts _ _ _ s
  · split
    · exact answer_acts _ _ _ s
    · split
      · exact answer_acts _ _ _ s
      · split
        · exact setFollowNow_acts _ _ _ s
        · exact stage_acts _ _ _ _ s ‹_› ‹_›

theorem doStartSound_acts (h : ReqCtx) (cue : Byte) (keep : Bool) (s : State) :
    Acts L s (doStartSound h cue keep s) := by
  unfold doStartSound
  split
  · exact answer_acts _ _ _ s
  · split
    · split
      · exact answer_acts _ _ _ s
      · exact (startAction_acts s).trans (answer_acts _ _ _ _)
    · exact stage_acts _ _ _ _ s ‹_› ‹_›

theorem doStopSound_acts (h : ReqCtx) (arg cue : Byte) (keep : Bool) (s : State) :
    Acts L s (doStopSound h arg cue keep s) := by
  unfold doStopSound
  split
  · exact answer_acts _ _ _ s
  · split
    · exact answer_acts _ _ _ s
    · split
      · split
        · exact answer_acts _ _ _ s
        · exact (withSound_acts (.action _ _)).trans (answer_acts _ _ _ _)
      · exact stage_acts _ _ _ _ s ‹_› ‹_›

theorem doStageSnapshot_acts (h : ReqCtx) (cue : Byte) (keep : Bool) (s : State) :
    Acts L s (doStageSnapshot h cue keep s) := by
  unfold doStageSnapshot
  split
  · exact answer_acts _ _ _ s
  · split
    · exact (takeSnapshots_acts s).trans (answer_acts _ _ _ _)
    · exact stage_acts _ _ _ _ s ‹_› ‹_›

theorem doStageRearm_acts (h : ReqCtx) (cue : Byte) (keep : Bool) (s : State) :
    Acts L s (doStageRearm h cue keep s) := by
  unfold doStageRearm
  split
  · exact answer_acts _ _ _ s
  · split
    · exact (rearmAll_acts s).trans (answer_acts _ _ _ _)
    · exact stage_acts _ _ _ _ s ‹_› ‹_›

/-! ## QUEUE_NOTES (R127, R128) -/

theorem noteSafe_of_clampNote {r : RawNote} {n : Note} (h : clampNote r = some n) : noteSafe n := by
  obtain ⟨w, -, rfl⟩ := Option.map_eq_some_iff.1 h
  have hd := clampN_bounds (show 1 ≤ 10000 by decide) r.duration.toNat
  have hv := clampN_bounds (show 0 ≤ 15 by decide) r.volume.toNat
  have hg := r.gap.isLt
  refine ⟨?_, hd.1, hd.2, hv.2, by simp only; omega⟩
  simp only
  split
  · exact .inl rfl
  · exact .inr (clampN_bounds (by decide) _)

theorem noteSafe_of_clampNotes {notes : List RawNote} {ns : List Note} (h : clampNotes notes = some ns) :
    ∀ n ∈ ns, noteSafe n := by
  unfold clampNotes at h
  split at h
  · cases h
    intro n hn
    obtain ⟨r, -, hr⟩ := List.mem_filterMap.1 hn
    exact noteSafe_of_clampNote hr
  · cases h

/-- The table a QUEUE_NOTES leaves is its old one, or has START_SOUND placed under a cue number 1 to 15. -/
theorem startPlace_step {st : RawStart} {f : StartForm} {t u : List CueEntry} {b : List Byte}
    (hf : startFormOf st = some f) (hp : startPlace f t = some (u, b)) : TableStep t u := by
  cases f with
  | now => cases hp; exact .keep _ _ (.refl t)
  | later => cases hp; exact .keep _ _ (.refl t)
  | onCue n keep =>
    have hn : 1 ≤ n.toNat ∧ n.toNat ≤ 15 := by
      unfold startFormOf at hf
      split at hf
      · cases hf
      · cases hf
      · split at hf
        · rename_i hr
          cases hf
          rwa [BitVec.toNat_setWidth_of_le (by decide)]
        · cases hf
      · cases hf
    unfold startPlace at hp
    simp only at hp
    split at hp
    · rename_i hpl
      cases hp
      exact .place _ _ _ _ hn.1 hn.2 hpl
    · cases hp

theorem startAfterQueue_acts (f : StartForm) (s : State) : Acts L s (startAfterQueue f s) := by
  unfold startAfterQueue
  split
  · exact startAction_acts s
  · exact .refl s

theorem doQueueNotes_acts (h : ReqCtx) (start : RawStart) (notes : List RawNote) (s : State) :
    Acts L s (doQueueNotes h start notes s) := by
  unfold doQueueNotes
  split
  · exact answer_acts _ _ _ s
  · rename_i hrun
    split
    · rename_i f ns hf hns
      split
      · exact answer_acts _ _ _ s
      · rename_i t staging hp
        have hsafe : ∀ n ∈ acceptNotes s.sound.queue ns, noteSafe n := fun n hn =>
          noteSafe_of_clampNotes hns n (List.mem_of_mem_take hn)
        have queued := SoundStep.queue (halted := s.fault.halted) _ s.sound (Bool.eq_false_iff.2 hrun) hsafe
          (List.length_take_le _ _)
        refine Acts.trans ?_ (answer_acts _ _ _ _)
        refine Acts.trans ?_ (startAfterQueue_acts f _)
        exact (withSound_acts queued).trans (withTable_acts (startPlace_step hf hp))
    · exact answer_acts _ _ _ s

/-! ## Requests of the cue unit, the watch unit, the publication unit, the ports and the tablet port -/

theorem doJoinGroups_acts (h : ReqCtx) (mask : Byte) (s : State) : Acts L s (doJoinGroups h mask s) :=
  (Act.groups s mask).acts.trans (answer_acts _ _ _ _)

theorem doSendCue_acts (h : ReqCtx) (mask cue : Byte) (s : State) : Acts L s (doSendCue h mask cue s) := by
  unfold doSendCue
  split
  · exact answer_acts _ _ _ s
  · split
    · exact (takeCueFrame_acts _ s).trans (answer_acts _ _ _ _)
    · simp only
      split
      · exact offer_acts _ _ s
      · exact (offer_acts _ _ s).trans (answer_acts _ _ _ _)

theorem doDropCues_acts (h : ReqCtx) (cue : Byte) (s : State) : Acts L s (doDropCues h cue s) := by
  unfold doDropCues
  split
  · exact answer_acts _ _ _ s
  · exact (withTable_filter_acts _ s).trans (answer_acts _ _ _ _)

theorem doListCues_acts (h : ReqCtx) (filter : Byte) (s : State) : Acts L s (doListCues h filter s) := by
  unfold doListCues
  split <;> exact answer_acts _ _ _ s

theorem doSetWatch_acts (h : ReqCtx) (index : Byte) (w : RawWatch) (s : State) :
    Acts L s (doSetWatch h index w s) := by
  unfold doSetWatch
  split
  · split
    · exact answer_acts _ _ _ s
    · exact (setWatch_acts _ _ s).trans (answer_acts _ _ _ _)
  · exact answer_acts _ _ _ s

theorem doClearWatch_acts (h : ReqCtx) (index : Byte) (s : State) : Acts L s (doClearWatch h index s) := by
  unfold doClearWatch
  split
  · exact Acts.trans (.forEach _ (fun k _ t => clearWatch_acts k t) s) (answer_acts _ _ _ _)
  · exact answer_acts _ _ _ s

theorem doRearm_acts (h : ReqCtx) (index : Byte) (s : State) : Acts L s (doRearm h index s) := by
  unfold doRearm
  split
  · unfold rearmEvery
    split
    · exact answer_acts _ _ _ s
    · exact (rearmAll_acts s).trans (answer_acts _ _ _ _)
  · split
    · unfold rearmOne
      split
      · exact answer_acts _ _ _ s
      · exact (rearmIf_acts _ s).trans (answer_acts _ _ _ _)
    · exact answer_acts _ _ _ s

theorem doSetPublish_acts (h : ReqCtx) (period : Half) (items : List Byte) (s : State) :
    Acts L s (doSetPublish h period items s) := by
  unfold doSetPublish
  split
  · exact answer_acts _ _ _ s
  · simp only
    split
    · exact answer_acts _ _ _ s
    · exact (Act.publish s _).acts.trans (answer_acts _ _ _ _)

theorem doSetSensorMode_acts (h : ReqCtx) (port mode : Byte) (s : State) :
    Acts L s (doSetSensorMode h port mode s) := by
  unfold doSetSensorMode
  split
  · exact answer_acts _ _ _ s
  · split
    · exact answer_acts _ _ _ s
    · split
      · exact (modPort_acts _ _ s).trans (answer_acts _ _ _ _)
      · exact answer_acts _ _ _ s
    · exact answer_acts _ _ _ s

theorem doPortReset_acts (h : ReqCtx) (port : Byte) (s : State) : Acts L s (doPortReset h port s) := by
  unfold doPortReset
  split
  · exact (modPort_acts _ _ s).trans (answer_acts _ _ _ _)
  · exact answer_acts _ _ _ s

theorem doSetEventMask_acts (h : ReqCtx) (mask : Word) (s : State) : Acts L s (doSetEventMask h mask s) :=
  (setTablet_acts (.mask mask _)).trans (answer_acts _ _ _ _)

theorem doReadStatus_acts (h : ReqCtx) (sect : Byte) (s : State) : Acts L s (doReadStatus h sect s) := by
  unfold doReadStatus
  split <;> exact answer_acts _ _ _ s

/-! ## Requests that need a licence -/

theorem doClearFault_acts (hL : L .clear) (h : ReqCtx) (s : State) : Acts L s (doClearFault h s) := by
  unfold doClearFault
  split
  · exact answer_acts _ _ _ s
  · exact ((Deed.clear s).acts hL).trans ((raiseEvent_acts _ _ _ _).trans (answer_acts _ _ _ _))

theorem doResetPosition_acts (hL : L .count) (h : ReqCtx) (ch : Byte) (v : Word) (s : State) :
    Acts L s (doResetPosition h ch v s) := by
  unfold doResetPosition
  split
  · exact ((Deed.count s _ _ (.shift v _)).acts hL).trans (answer_acts _ _ _ _)
  · exact answer_acts _ _ _ s

theorem answerMirror_acts (h : ReqCtx) (b : Bool) (k : Fin 16) (s : State) : Acts L s (answerMirror h b k s) := by
  unfold answerMirror
  split
  · exact answer_acts _ _ _ s
  · exact .refl s

theorem newLimit_acts (hL : L .mirror) {k : Fin 16} {e : ListenEntry} {n : Nat} {s : State} (he : s.entry k = some e)
    (hn : 20 ≤ n ∧ n ≤ 2000) : Acts L s (newLimit k e n s) := by
  unfold newLimit
  simp only
  split
  · exact ((Deed.mirror s k _ (he ▸ .expire e n hn.1 hn.2)).acts hL).trans (raiseEvent_acts _ _ _ _)
  · exact (Deed.mirror s k _ (he ▸ .limit e n hn.1 hn.2)).acts hL

theorem setListenAt_acts (hL : L .mirror) (h : ReqCtx) (k : Fin 16) {source : BitVec 4} {item : Byte} {n : Nat} (b : Bool)
    (s : State) (h0 : source ≠ 0) (h15 : source ≠ 15) (hi : validItem item = true) (hn : 20 ≤ n ∧ n ≤ 2000) :
    Acts L s (setListenAt h k source item n b s) := by
  have made : Acts L s (s.setEntry k (some (newEntry source item n))) :=
    (Deed.mirror s k _ (.make _ _ _ _ h0 h15 hi hn.1 hn.2)).acts hL
  unfold setListenAt
  split
  · exact made.trans (answerMirror_acts _ _ _ _)
  · rename_i e he
    split
    · exact (newLimit_acts hL he hn).trans (answerMirror_acts _ _ _ _)
    · split
      · exact made.trans (answerMirror_acts _ _ _ _)
      · exact answer_acts _ _ _ s

theorem setWidth_four_ne {b : Byte} (h1 : 1 ≤ b.toNat) (h14 : b.toNat ≤ 14) :
    b.setWidth 4 ≠ 0 ∧ b.setWidth 4 ≠ 15 := by
  constructor <;> intro h <;> have := congrArg BitVec.toNat h <;> simp [BitVec.toNat_setWidth] at this <;> omega

theorem doSetListen_acts (hL : L .mirror) (h : ReqCtx) (index source item : Byte) (limit : Half) (s : State) :
    Acts L s (doSetListen h index source item limit s) := by
  unfold doSetListen
  split
  · exact answer_acts _ _ _ s
  · split
    · exact answer_acts _ _ _ s
    · rename_i hsource
      split
      · exact answer_acts _ _ _ s
      · rename_i hitem
        split
        · exact answer_acts _ _ _ s
        · obtain ⟨h0, h15⟩ := setWidth_four_ne (b := source) (by omega) (by omega)
          exact setListenAt_acts hL _ _ _ s h0 h15 (by simpa using hitem) (clampN_bounds (by decide) _)

theorem doDropListen_acts (hL : L .mirror) (h : ReqCtx) (index : Byte) (s : State) :
    Acts L s (doDropListen h index s) := by
  unfold doDropListen
  split
  · exact answer_acts _ _ _ s
  · split
    · exact answer_acts _ _ _ s
    · split
      · exact ((Deed.mirror s _ none (.drop _)).acts hL).trans (answer_acts _ _ _ _)
      · exact answer_acts _ _ _ s

theorem restartBlocks_acts (hL : L .reset) (h : ReqCtx) (s : State) : Acts L s (restartBlocks h s) :=
  (Deed.restart s h).acts hL

/-- The deeds that some request performs. -/
def Licence.requested : Licence → Prop
  | .clear => True
  | .count => True
  | .mirror => True
  | .reset => True
  | _ => False

theorem runRequest_acts (hL : ∀ k, Licence.requested k → L k) (h : ReqCtx) (r : Request) (s : State) :
    Acts L s (runRequest h r s) := by
  cases r with
  | setMotor ch mode v cue keep => exact doSetMotor_acts h ch mode v cue keep s
  | setFollow ch f cue keep => exact doSetFollow_acts h ch f cue keep s
  | configMotor ch kind p => exact doConfigMotor_acts h ch kind p s
  | resetPosition ch v => exact doResetPosition_acts (hL .count trivial) h ch v s
  | setPublish p items => exact doSetPublish_acts h p items s
  | setListen i x y z => exact doSetListen_acts (hL .mirror trivial) h i x y z s
  | dropListen i => exact doDropListen_acts (hL .mirror trivial) h i s
  | joinGroups m => exact doJoinGroups_acts h m s
  | sendCue m c => exact doSendCue_acts h m c s
  | dropCues c => exact doDropCues_acts h c s
  | listCues f => exact doListCues_acts h f s
  | stageSnapshot c keep => exact doStageSnapshot_acts h c keep s
  | stageRearm c keep => exact doStageRearm_acts h c keep s
  | setSensorMode p m => exact doSetSensorMode_acts h p m s
  | portReset p => exact doPortReset_acts h p s
  | setWatch i w => exact doSetWatch_acts h i w s
  | clearWatch i => exact doClearWatch_acts h i s
  | rearm i => exact doRearm_acts h i s
  | queueNotes st ns => exact doQueueNotes_acts h st ns s
  | startSound c keep => exact doStartSound_acts h c keep s
  | stopSound a c keep => exact doStopSound_acts h a c keep s
  | clearSound => exact doClearSound_acts h s
  | setVolume m k => exact doSetVolume_acts h m k s
  | configFault a b c d e f => exact doConfigFault_acts h a b c d e f s
  | halt a b c d => exact doHalt_acts h a b c d s
  | clearFault => exact doClearFault_acts (hL .clear trivial) h s
  | setKeepalive p => exact doSetKeepalive_acts h p s
  | setEventMask m => exact doSetEventMask_acts h m s
  | readStatus x => exact doReadStatus_acts h x s
  | restart => exact restartBlocks_acts (hL .reset trivial) h s

/-! ## Sensor ports -/

theorem portEvent_acts (e : EventKind) (p : Fin 4) (a : Word) (s : State) : Acts L s (portEvent e p a s) :=
  raiseEvent_acts _ _ _ s

theorem loseReady_acts (p : Fin 4) (a : Word) (s : State) : Acts L s (loseReady p a s) := by
  unfold loseReady
  split
  · exact (modPort_acts _ _ s).trans (portEvent_acts _ _ _ _)
  · exact .refl s

theorem detectStep_acts (p : Fin 4) (b : Band) (s : State) : Acts L s (detectStep p b s) := by
  unfold detectStep
  simp only
  split
  · exact setPort_acts _ _ s
  · generalize (if (s.port p).candidate = some b then (s.port p).debounce + 1 else 1) = n
    split
    · exact (loseReady_acts p 3 s).trans (modPort_acts _ _ _)
    · exact setPort_acts _ _ s

theorem analogStep_acts (p : Fin 4) (mv : Nat) (s : State) : Acts L s (analogStep p mv s) := by
  unfold analogStep
  simp only
  split
  · exact setPort_acts _ _ s
  · refine Acts.trans ?_ (watchUpdate_acts _ _)
    split
    · exact Acts.trans (setPort_acts _ _ s) (portEvent_acts _ _ _ _)
    · exact setPort_acts _ _ s

theorem failIdentification_acts (p : Fin 4) (a : Word) (s : State) : Acts L s (failIdentification p a s) :=
  (modPort_acts _ _ s).trans (portEvent_acts _ _ _ _)

theorem loseSensor_acts (p : Fin 4) (a : Word) (s : State) : Acts L s (loseSensor p a s) :=
  (loseReady_acts p a s).trans (modPort_acts _ _ _)

theorem eightBad_acts (p : Fin 4) (s : State) : Acts L s (eightBad p s) := by
  unfold eightBad
  split
  · exact failIdentification_acts _ _ _
  · exact loseSensor_acts _ _ _

theorem badMessage_acts (p : Fin 4) (s : State) : Acts L s (badMessage p s) := by
  unfold badMessage
  simp only
  split
  · exact Acts.trans (modPort_acts p _ s) (eightBad_acts p _)
  · exact modPort_acts _ _ s

theorem completeSwitch_acts (p : Fin 4) (sw : Switch) (vs : List Word) (s : State) :
    Acts L s (completeSwitch p sw vs s) := by
  unfold completeSwitch
  simp only
  split
  · exact (modPort_acts _ _ s).trans ((portEvent_acts _ _ _ _).trans (watchUpdate_acts _ _))
  · exact (modPort_acts _ _ s).trans
      ((modPort_acts _ _ _).trans ((portEvent_acts _ _ _ _).trans (watchUpdate_acts _ _)))

theorem takeReading_acts (p : Fin 4) (m : Nat) (vs : List Word) (s : State) : Acts L s (takeReading p m vs s) :=
  (modPort_acts _ _ s).trans (watchUpdate_acts _ _)

theorem useValues_acts (p : Fin 4) (m : Nat) (vs : List Word) (s : State) : Acts L s (useValues p m vs s) := by
  unfold useValues
  simp only
  split
  · split
    · exact takeReading_acts _ _ _ s
    · exact .refl s
  · split
    · exact completeSwitch_acts _ _ _ s
    · split
      · exact takeReading_acts _ _ _ s
      · exact .refl s
  · exact .refl s

theorem judgeValues_acts (p : Fin 4) (body : List Byte) (s : State) : Acts L s (judgeValues p body s) := by
  unfold judgeValues
  split
  · exact (modPort_acts _ _ s).trans (useValues_acts _ _ _ _)
  · exact badMessage_acts p s

theorem useDescribe_acts (p : Fin 4) (body : List Byte) (s : State) : Acts L s (useDescribe p body s) := by
  unfold useDescribe
  split
  · exact modPort_acts _ _ s
  · exact failIdentification_acts _ _ s

theorem messageStep_acts (p : Fin 4) (m : SensorMsg) (s : State) : Acts L s (messageStep p m s) := by
  unfold messageStep
  simp only
  split
  · exact .refl s
  · split
    · exact .refl s
    · split
      · exact badMessage_acts p s
      · unfold useMessage
        split
        · exact (modPort_acts _ _ s).trans (useDescribe_acts _ _ _)
        · exact judgeValues_acts _ _ s
        · exact judgeValues_acts _ _ s
        · exact modPort_acts _ _ s

theorem failSwitch_acts (p : Fin 4) (sw : Switch) (s : State) : Acts L s (failSwitch p sw s) := by
  unfold failSwitch
  split
  · exact (modPort_acts _ _ s).trans (portEvent_acts _ _ _ _)
  · exact failIdentification_acts _ _ s

/-! ## Publishing and mirrors -/

theorem publishExpiry_acts (hL : L .hold) (s : State) : Acts L s (publishExpiry s) := by
  unfold publishExpiry
  simp only
  split
  · exact (Act.publish s _).acts
  · exact (Act.publish s _).acts.trans ((Deed.publish _ _).acts hL)

theorem goStale_acts {k : Fin 16} {e : ListenEntry} {s : State} (he : s.entry k = some e) (a : Word) :
    Acts L s (goStale k e a s) :=
  (Act.stale s k e he).acts.trans (raiseEvent_acts _ _ _ _)

theorem mirrorStep_acts (hL : L .mirror) (sender : BitVec 4) (es : List (Byte × Word)) (k : Fin 16) (s : State) :
    Acts L s (mirrorStep sender es k s) := by
  unfold mirrorStep
  split
  · rename_i e he
    split
    · split
      · rename_i v _
        split
        · unfold takeNoValue
          split
          · exact goStale_acts he 2
          · exact .refl s
        · have taken : Acts L s (s.setEntry k (some { e with value := v, state := .fresh, age := some 0 })) :=
            (Deed.mirror s k _ (he ▸ .take e v)).acts hL
          refine Acts.trans ?_ (watchUpdate_acts _ _)
          split
          · exact taken.trans (raiseEvent_acts _ _ _ _)
          · exact taken
      · exact .refl s
    · exact .refl s
  · exact .refl s

theorem takePublish_acts (hL : L .mirror) (sender : BitVec 4) (p : List Byte) (s : State) :
    Acts L s (takePublish sender p s) := by
  unfold takePublish
  split
  · split
    · exact .forEach all16 (fun k _ t => mirrorStep_acts hL _ _ k t) s
    · exact .refl s
  · exact .refl s

/-! ## The tablet port -/

theorem setRoute_acts (r : Route) (s : State) : Acts L s (setRoute r s) := setTablet_acts (.route r _)

theorem setRx_acts (r : TabletRx) (s : State) : Acts L s (setRx r s) := setTablet_acts (.receive r _)

theorem badTabletMessage_acts (s : State) : Acts L s (badTabletMessage s) := setTablet_acts (.bad _)

theorem relay_acts (h : ReqCtx) (d : BitVec 4) (body : List Byte) (s : State) : Acts L s (relay h d body s) := by
  unfold relay
  split
  · exact answer_acts _ _ _ s
  · split
    · exact answer_acts _ _ _ s
    · split
      · exact answer_acts _ _ _ s
      · split
        · exact answer_acts _ _ _ s
        · rename_i hroom
          simp only
          split
          · refine (offer_acts _ _ s).trans (setTablet_acts ?_)
            exact .relay { id := s.tablet.nextRelay, tag := h.tag, dest := d, deadline := 100, status := .queued } _
              (by simp) (by simpa using hroom)
          · exact (offer_acts _ _ s).trans (answer_acts _ _ _ _)

theorem answerRelay_acts (e : Relay) (r : Result) (d : List Byte) (s : State) : Acts L s (answerRelay e r d s) :=
  placeAnswer_acts (length_answerBody_le _ _ _ _) s

theorem removeRelay_acts (id : Nat) (s : State) : Acts L s (removeRelay id s) := setTablet_acts (.unrelay id _)

theorem takeBody_acts (hL : ∀ k, Licence.requested k → L k) (body : List Byte) (s : State) :
    Acts L s (takeBody body s) := by
  unfold takeBody
  split
  · exact .refl s
  · exact answer_acts _ _ _ s
  · exact answer_acts _ _ _ s
  · simp only
    split
    · refine Acts.trans ?_ (answer_acts _ _ _ _)
      split
      · exact restartKeepalive_acts s
      · exact .refl s
    · split
      · exact (restartKeepalive_acts s).trans (runRequest_acts hL _ _ _)
      · split
        · exact relay_acts _ _ _ s
        · exact answer_acts _ _ _ s

theorem feedByte_acts (hL : ∀ k, Licence.requested k → L k) (b : LineByte) (s : State) : Acts L s (feedByte b s) := by
  unfold feedByte
  simp only
  split
  · exact setRx_acts _ s
  · exact (setRx_acts _ s).trans (badTabletMessage_acts _)
  · exact (setRx_acts _ s).trans ((setRoute_acts _ _).trans (takeBody_acts hL _ _))

theorem takeCommand_acts (hL : ∀ k, Licence.requested k → L k) (st : BitVec 4) (p : List Byte) (s : State) :
    Acts L s (takeCommand st p s) := by
  unfold takeCommand
  split
  · refine ((setRoute_acts (.station st) s).trans (restartKeepalive_acts _)).trans ?_
    simp only
    split
    · exact runRequest_acts hL _ _ _
    · exact answer_acts _ _ _ _
  · exact .refl s

theorem takeAnswer_acts (st : BitVec 4) (p : List Byte) (s : State) : Acts L s (takeAnswer st p s) := by
  unfold takeAnswer
  split
  · split
    · exact (removeRelay_acts _ s).trans (placeAnswer_acts (length_take_append_le [_, _, _, _] _ 56) _)
    · exact .refl s
  · exact .refl s

theorem takeNotice_acts (st : BitVec 4) (p : List Byte) (s : State) : Acts L s (takeNotice st p s) := by
  unfold takeNotice
  split
  · split
    · rename_i hup
      exact (setTablet_acts (.lostZero s.tablet)).trans
        (placeRecord_acts (by decide) ((length_eventBody _ _ _ _ _).trans_le (by decide)) hup)
    · exact .refl s
  · exact .refl s

theorem linkFall_acts (s : State) : Acts L s (linkFall s) := setTablet_acts (.fall _)

/-! ## The brick link -/

theorem setLink_acts {l : Link} {s : State} (h : LineStep s.link l) : Acts L s { s with link := l } := (Act.line s l h).acts

theorem settleHeld_acts (hL : L .hold) (s : State) : Acts L s (settleHeld s) := by
  unfold settleHeld
  split
  · exact .deed hL (.unheld s) ((Deed.publish _ _).acts hL)
  · exact .refl s

theorem duplicateStation_acts (a : Word) (s : State) : Acts L s (duplicateStation a s) := by
  unfold duplicateStation
  split
  · exact .refl s
  · exact Acts.trans (t := s.modLink _) (setLink_acts ⟨rfl, rfl, rfl, rfl, .inl rfl⟩) (raiseEvent_acts _ _ _ _)

theorem stationHeard_acts (st : BitVec 4) (s : State) : Acts L s (stationHeard st s) := by
  have heard : Acts L s (s.modLink fun l => l.setRoster st (some 1000)) := setLink_acts ⟨rfl, rfl, rfl, rfl, .inl rfl⟩
  unfold stationHeard
  simp only
  split
  · exact heard
  · exact heard.trans (raiseEvent_acts _ _ _ _)

theorem takeHaltFrame_acts (st : BitVec 4) (p : List Byte) (s : State) : Acts L s (takeHaltFrame st p s) := by
  unfold takeHaltFrame
  split
  · split
    · exact (Act.remote s s.fault.remoteStyle _).acts.trans ((haltStation_acts _ _).trans (raiseEvent_acts _ _ _ _))
    · exact .refl s
  · exact .refl s

theorem handOver_acts (hL : ∀ k, Licence.requested k → L k) (f : HeldFrame) (s : State) : Acts L s (handOver f s) := by
  unfold handOver
  split
  · exact takeHaltFrame_acts _ _ s
  · exact takeCueFrame_acts _ s
  · unfold takeDirected
    split
    · split
      · exact takeCommand_acts hL _ _ s
      · exact .refl s
    · split
      · exact takeAnswer_acts _ _ s
      · exact .refl s
    · split
      · exact takeNotice_acts _ _ s
      · exact .refl s
    · exact .refl s
  · exact takePublish_acts (hL .mirror trivial) _ _ s

theorem deliverReceived_acts (hL : ∀ k, Licence.requested k → L k) (f : HeldFrame) (s : State) :
    Acts L s (deliverReceived f s) := by
  have counted : Acts L s (s.modLink fun l => { l with delivered := bump l.delivered }) :=
    setLink_acts ⟨rfl, rfl, rfl, rfl, .inl rfl⟩
  unfold deliverReceived
  refine Acts.trans ?_ (handOver_acts hL _ _)
  split
  · exact counted.trans (duplicateStation_acts _ _)
  · exact counted.trans (stationHeard_acts _ _)

theorem tellSpoiledOut_acts (o : FrameOwner) (s : State) : Acts L s (tellSpoiledOut o s) := by
  unfold tellSpoiledOut
  split
  · exact .refl s
  · exact answer_acts _ _ _ s
  · exact .refl s
  · split
    · exact (removeRelay_acts _ s).trans (answerRelay_acts _ _ _ _)
    · exact .refl s
  · exact addLost_acts _ s
  · exact addLost_acts _ s
  · exact .refl s

theorem tellDelivered_acts (f : Frame) (s : State) : Acts L s (tellDelivered f s) := by
  unfold tellDelivered
  split
  · exact .refl s
  · exact (takeCueFrame_acts _ s).trans (answer_acts _ _ _ _)
  · exact takeCueFrame_acts _ s
  · exact setTablet_acts (.marked _ _)
  · exact .refl s
  · exact .refl s
  · exact .refl s

end Sys2Proof.Machine
end

section
/-! PROOFS. Each command's run of acts and licensed deeds; where a detached frame is settled, and
where a control period ends. -/

namespace Sys2Proof.Machine

/-! ## The line's events -/

theorem quietGapEnd_step (l : Link) : LineStep l (quietGapEnd l) := by
  unfold quietGapEnd
  split
  all_goals constructor <;> simp [*, Link.dropRx]

theorem breakToListening_step {l : Link} (h : l.state = .idle ∨ l.state = .receiving) :
    LineStep l (breakToListening l) := by
  constructor <;> rcases h with h | h <;> simp [breakToListening, Link.dropRx, h]

theorem breakLater_step {l : Link} (n : Byte) (h : l.state = .receiving) : LineStep l (breakLater n l) := by
  unfold breakLater
  split
  · split
    · exact ⟨rfl, rfl, rfl, rfl, .inl rfl⟩
    · exact ⟨rfl, rfl, rfl, rfl, .inl rfl⟩
  · split
    · exact ⟨rfl, rfl, rfl, rfl, .inr (by simp [h])⟩
    · exact breakToListening_step (.inr h)

theorem breakFrame_step (a : BrokenAt) (l : Link) : LineStep l (breakFrame a l) := by
  unfold breakFrame
  split
  · exact breakToListening_step (.inl ‹_›)
  · exact breakToListening_step (.inr ‹_›)
  · exact breakToListening_step (.inr ‹_›)
  · exact breakLater_step _ ‹_›
  · exact ⟨rfl, rfl, rfl, rfl, .inl rfl⟩

theorem verdictStart_step (rx : RxFrame) (l : Link) : LineStep l (verdictStart rx l) := by
  unfold verdictStart
  split
  · rename_i h
    exact ⟨rfl, rfl, rfl, rfl, .inr (by simp [h])⟩
  · rename_i h
    split <;> exact ⟨rfl, rfl, rfl, rfl, .inr (by simp [h])⟩
  · exact ⟨rfl, rfl, rfl, rfl, .inl rfl⟩

/-! ## A frame in contention that waits again or leaves -/

/-- The deeds a command has a licence for, but for detaching a frame. -/
def mayAttached (c : Instr) (k : Licence) : Prop := may c k ∧ k ≠ .detach

/-- A command that may detach a frame: it does not, or it settles the held PUBLISH frame after that. -/
def SettlesHeld (c : Instr) (s t : State) : Prop :=
  Acts (mayAttached c) s t ∨ ∃ u, Acts (may c) s u ∧ Acts (mayAttached c) (settleHeld u) t

theorem SettlesHeld.acts {c : Instr} (hc : detaches c) {s t : State} (h : SettlesHeld c s t) : Acts (may c) s t := by
  have attached : ∀ k, mayAttached c k → may c k := fun _ hk => hk.1
  rcases h with h | ⟨u, hu, ht⟩
  · exact h.mono attached
  · exact hu.trans ((settleHeld_acts (L := may c) (.inr hc) u).trans (ht.mono attached))

theorem SettlesHeld.refl (c : Instr) (s : State) : SettlesHeld c s s := .inl (.refl s)

theorem SettlesHeld.of_detach {c : Instr} {s t : State} {l : Link} (hc : may c .detach) (hl : DetachStep s.link l)
    (h : Acts (mayAttached c) (settleHeld { s with link := l }) t) : SettlesHeld c s t :=
  .inr ⟨_, (Deed.detach s l hl).acts hc, h⟩

/-- The two ends of a spoil: below the eighth the frame waits again, at the eighth it leaves (R13). -/
theorem spoilContender_settles {c : Instr} {s t : State} {g : Link → Link} (hc : may c .detach)
    (online : s.link.state ≠ .offline) (own : (g s.link).own = s.link.own) (rate : (g s.link).rate = s.link.rate)
    (queue : (g s.link).queue = s.link.queue) (held : (g s.link).held = s.link.held)
    (h : Acts (mayAttached c) (spoilContender (s.modLink g)) t) : SettlesHeld c s t := by
  have contender : (g s.link).contender = s.link.contender := by rw [Link.contender, Link.contender, queue]
  unfold spoilContender at h
  rw [modLink_link, contender] at h
  split at h
  · rename_i f hf
    split at h
    · have gone : DetachStep s.link (g s.link).removeContender :=
        ⟨own, rate, held, online, .inr (.inl (by rw [← queue]; rfl))⟩
      refine .inr ⟨_, ((Deed.detach s _ gone).acts hc).trans ?_, h⟩
      exact (raiseEvent_acts _ _ _ _).trans (tellSpoiledOut_acts _ _)
    · rename_i hspoils
      refine .of_detach (l := { g s.link with queue := countSpoil (g s.link).queue }) hc
        ⟨own, rate, held, online, .inr (.inr ⟨congrArg countSpoil queue, ?_⟩)⟩ h
      intro f' hf'
      rw [hf] at hf'
      cases hf'
      omega
  · rename_i hnone
    refine .inr ⟨_, Acts.act (.line s (g s.link) ⟨own, rate, queue, held, ?_⟩) (.refl _), h⟩
    by_cases hstate : (g s.link).state = s.link.state
    · exact .inl hstate
    · exact .inr ⟨online, fun _ => .inr (.inr hnone)⟩

theorem requested_may {c : Instr} (hc : carries c) (k : Licence) (hk : Licence.requested k) : may c k := by
  cases k with
  | clear => exact .inl hc
  | count => exact .inl hc
  | mirror => exact .inl hc
  | reset => exact .inl hc
  | straps => exact hk.elim
  | detach => exact hk.elim
  | drive => exact hk.elim
  | hold => exact hk.elim

theorem requested_mayAttached {c : Instr} (hc : carries c) (k : Licence) (hk : Licence.requested k) :
    mayAttached c k := ⟨requested_may hc k hk, by rintro rfl; exact hk⟩

theorem contentionLoss_settles {s t : State} (h : exec .contentionLoss s = .next t) :
    SettlesHeld .contentionLoss s t := by
  cases h
  split
  · rename_i hs
    exact .of_detach (l := { s.link.backToWaiting.dropRx with state := .receiving }) (.inl rfl)
      ⟨rfl, rfl, rfl, by simp [hs], .inl rfl⟩ (.refl _)
  · exact .refl _ s

theorem bitClash_settles {s t : State} (h : exec .bitClash s = .next t) : SettlesHeld .bitClash s t := by
  cases h
  split
  · rename_i hs
    exact spoilContender_settles (.inr (.inl rfl)) (by simp [hs]) rfl rfl rfl rfl (duplicateStation_acts _ _)
  · exact .refl _ s

theorem frameSpoiled_settles {s t : State} (h : exec .frameSpoiled s = .next t) : SettlesHeld .frameSpoiled s t := by
  cases h
  split
  · rename_i hs
    exact spoilContender_settles (g := fun l => { slotEnd l with spoiled := bump l.spoiled })
      (.inr (.inr (.inr (.inl rfl)))) (by simp [hs]) rfl rfl rfl rfl (.refl _)
  · exact .refl _ s

theorem lineStuck_settles {s t : State} (h : exec .lineStuck s = .next t) : SettlesHeld .lineStuck s t := by
  cases h
  split
  · exact .refl _ s
  · rename_i hs
    exact .of_detach (l := { s.link.backToWaiting.dropRx with state := .stuck, gapOpen := false })
      (.inr (.inr (.inr (.inr rfl)))) ⟨rfl, rfl, rfl, hs, .inl rfl⟩ (raiseEvent_acts _ _ _ _)

theorem frameDelivered_settles {s t : State} (h : exec .frameDelivered s = .next t) :
    SettlesHeld .frameDelivered s t := by
  have slot_end (hs : s.link.state = .verdict) (hn : s.link.contender = none) : Act s (s.modLink slotEnd) :=
    .line s _ ⟨rfl, rfl, rfl, rfl, .inr ⟨by simp [hs], fun _ => .inr (.inr hn)⟩⟩
  cases h
  split
  · rename_i hs
    split
    · rename_i f _
      have gone : DetachStep s.link
          { (slotEnd s.link).removeContender with delivered := bump (slotEnd s.link).delivered } :=
        ⟨rfl, rfl, rfl, by simp [hs], .inr (.inl rfl)⟩
      exact .inr ⟨_, ((Deed.detach s _ gone).acts (.inr (.inr (.inl rfl)))).trans (tellDelivered_acts f _), .refl _⟩
    · rename_i f hn _
      exact .inl ((slot_end hs hn).acts.trans (deliverReceived_acts (requested_mayAttached (.inl rfl)) f _))
    · rename_i hn _
      exact .inl (slot_end hs hn).acts
  · exact .refl _ s

/-! ## The control period -/

/-- A control period reaches its last stages by acts, tells its stall by acts, and ends with the output stage (R77). -/
theorem controlPeriod_parts (c : Fin 4) (current : Nat) (s : State) : ∃ u x v, (∀ L, Acts L s u) ∧
    (∀ L, Acts L (u.modChan c (limitStage (min 4000 current) (u.supply.state == .sag))) x) ∧
    controlPeriod c current s = x.modChan c fun ch => outputStage (clampAbs ch.leff v) ch :=
  ⟨(middleStages c (sampleStages c s)).1, _, (middleStages c (sampleStages c s)).2,
    fun _ => (sampleStages_acts c s).trans (middleStages_acts c _), fun _ => tellCondition_acts _ _ _, rfl⟩

theorem controlPeriod_acts {L : Licence → Prop} (hL : L .drive) (c : Fin 4) (current : Nat) (s : State) :
    Acts L s (controlPeriod c current s) := by
  obtain ⟨u, x, v, hu, hx, he⟩ := controlPeriod_parts c current s
  rw [he]
  refine (hu L).trans (.deed hL (Deed.drive u c _ (.limit _ _)) ((hx L).trans ?_))
  exact (Deed.drive x c _ (.output v _)).acts hL

/-! ## Every command -/

theorem resetEnd_acts {L : Licence → Prop} (hL : L .straps) (p : Straps) (b : Nat) (d : Int) (up : Bool) (s : State) :
    Acts L s (resetEnd p b d up s) := by
  unfold resetEnd
  refine Acts.trans ?_ (temperatureStep_acts d _)
  refine Acts.trans ?_ (vbatStep_acts _)
  refine .deed hL (Deed.straps s p) (.act (.supply _ { s.supply with window := Vector.replicate 16 b } (.inl rfl)) ?_)
  unfold readLinkUp
  split
  · exact setTablet_acts (.up s.tablet.rx _)
  · exact linkFall_acts _

theorem answerRestart_acts {L : Licence → Prop} (h : ReqCtx) (s : State) : Acts L s (answerRestart h s) := by
  unfold answerRestart
  split
  · exact answer_acts _ _ _ s
  · split
    · exact .refl s
    · exact answer_acts _ _ _ s

theorem ite_acts {L : Licence → Prop} {p : Prop} [Decidable p] {s a b : State} (ha : p → Acts L s a)
    (hb : ¬p → Acts L s b) : Acts L s (if p then a else b) := by
  split
  · exact ha ‹_›
  · exact hb ‹_›

/-- Whatever a command does is a run of acts, and of deeds that the command has a licence for. -/
theorem exec_acts {c : Instr} {s t : State} (h : exec c s = .next t) : Acts (may c) s t := by
  have none_of {p : Prop} (_ : ¬p) : Acts (may c) s s := .refl s
  cases c <;> cases h
  case contentionLoss.refl => exact (contentionLoss_settles rfl).acts (.inl rfl)
  case bitClash.refl => exact (bitClash_settles rfl).acts (.inr (.inl rfl))
  case frameDelivered.refl => exact (frameDelivered_settles rfl).acts (.inr (.inr (.inl rfl)))
  case frameSpoiled.refl => exact (frameSpoiled_settles rfl).acts (.inr (.inr (.inr (.inl rfl))))
  case lineStuck.refl => exact (lineStuck_settles rfl).acts (.inr (.inr (.inr (.inr rfl))))
  case coldReset.refl => exact (Deed.reset s).acts (.inr (.inl rfl))
  case resetEnd.refl p b d up => exact ite_acts (fun _ => resetEnd_acts ⟨p, b, d, up, rfl⟩ p b d up s) none_of
  case quietGapEnd.refl => exact .act (.line s _ (quietGapEnd_step _)) (Act.claim _).acts
  case frameBroken.refl a => exact setLink_acts (breakFrame_step a _)
  case verdict.refl rx => exact setLink_acts (verdictStart_step rx _)
  case stationSilenceExpiry.refl n =>
    exact ite_acts (fun _ => Acts.trans (t := s.modLink fun l => l.setRoster n none)
      (setLink_acts ⟨rfl, rfl, rfl, rfl, .inl rfl⟩) (raiseEvent_acts _ _ _ _)) none_of
  case duplicateSuppressionExpiry.refl => exact ite_acts (fun _ => setLink_acts ⟨rfl, rfl, rfl, rfl, .inl rfl⟩) none_of
  case publishTimerExpiry.refl => exact ite_acts (fun _ => publishExpiry_acts (.inl rfl) s) none_of
  case ageTimerExpiry.refl k =>
    split
    · exact ite_acts (fun _ => goStale_acts ‹_› 1) none_of
    · exact .refl s
  case controlPeriodExpiry.refl c i => exact ite_acts (fun _ => .refl s) (fun _ => controlPeriod_acts ⟨c, i, rfl⟩ c i s)
  case encoderTransition.refl c a b =>
    have licence : may (.encoderTransition c a b) .count := .inr (.inr ⟨c, a, b, rfl⟩)
    exact ite_acts (fun _ => (Deed.count s c _ (.lines a b _)).acts licence)
      (fun _ => (Deed.count s c _ (.encoder a b _)).acts licence)
  case pwmWrap.refl c => exact ite_acts (fun _ => .refl s) (fun _ => modChan_acts (.wrap _ _))
  case detectSample.refl p mv => exact ite_acts (fun _ => .refl s) (fun _ => detectStep_acts p _ s)
  case analogSample.refl p mv => exact ite_acts (fun _ => analogStep_acts p mv s) none_of
  case rateMeasurement.refl p ns => exact ite_acts (fun _ => modPort_acts p _ s) none_of
  case rateMeasurementTimeout.refl p => exact ite_acts (fun _ => modPort_acts p _ s) none_of
  case acknowledgeSent.refl p => exact ite_acts (fun _ => modPort_acts p _ s) none_of
  case sensorMessageReceived.refl p m => exact messageStep_acts p m s
  case sensorGapTimeout.refl p => exact ite_acts (fun _ => badMessage_acts p s) none_of
  case sensorMessageSent.refl p => exact ite_acts (fun _ => .refl s) (fun _ => modPort_acts p _ s)
  case descriptionTimerExpiry.refl p => exact ite_acts (fun _ => failIdentification_acts p 1 s) none_of
  case silenceTimerExpiry.refl p => exact ite_acts (fun _ => loseSensor_acts p 1 s) none_of
  case switchTimerExpiry.refl p =>
    split
    · exact failSwitch_acts p _ s
    · exact .refl s
  case nudgeTimerExpiry.refl p => exact ite_acts (fun _ => modPort_acts p _ s) none_of
  case sampleClock.refl => exact ite_acts (fun _ => .refl s) (fun _ => sampleStep_acts s)
  case speakerPwmWrap.refl =>
    refine ite_acts (fun _ => .refl s) (fun _ => ?_)
    simpa using withSound_acts (SoundStep.wrap (decide (s.supply.state = .brownout)) s.sound)
  case supplySample.refl mv =>
    exact ite_acts (fun _ => .refl s) (fun _ => Acts.trans
      (setSupply_acts (x := { s.supply with window := shiftIn s.supply.window mv }) (.inl rfl)) (vbatStep_acts _))
  case temperatureReading.refl d => exact ite_acts (fun _ => .refl s) (fun _ => temperatureStep_acts d s)
  case graceTimerExpiry.refl k => exact ite_acts (fun _ => latch_acts k s) none_of
  case keepaliveTimerExpiry.refl =>
    exact ite_acts (fun _ => (Act.keepalive s s.fault.keepPeriod none nofun).acts.trans (tellCondition_acts _ _ _))
      none_of
  case tabletMessage.refl b =>
    exact ite_acts (fun _ => .forEach b (fun x _ u => feedByte_acts (requested_may (.inr ⟨b, rfl⟩)) x u) s) none_of
  case tabletGapTimeout.refl => exact ite_acts (fun _ => badTabletMessage_acts s) none_of
  case recordSent.refl => exact ite_acts (fun _ => setTablet_acts (.sent _)) none_of
  case deadlineTimerExpiry.refl i =>
    split
    · exact ite_acts (fun _ => (Act.withdraw s _).acts.trans ((removeRelay_acts _ _).trans (answerRelay_acts _ _ _ _)))
        none_of
    · exact .refl s
  case linkUpFall.refl => exact linkFall_acts s
  case linkUpRise.refl => exact ite_acts (fun _ => .refl s) (fun _ => setTablet_acts (.up .hunt _))
  case restartDone.refl =>
    split
    · exact (setTablet_acts (.answered _)).trans (answerRestart_acts _ _)
    · exact .refl s
  case setMotor.refl h ch mode v cue keep => exact doSetMotor_acts h ch mode v cue keep s
  case setFollow.refl h ch f cue keep => exact doSetFollow_acts h ch f cue keep s
  case configMotor.refl h ch kind p => exact doConfigMotor_acts h ch kind p s
  case resetPosition.refl h ch v => exact doResetPosition_acts (.inr (.inl ⟨h, ch, v, rfl⟩)) h ch v s
  case setPublish.refl h p items => exact doSetPublish_acts h p items s
  case setListen.refl h i x y z => exact doSetListen_acts (.inr (.inl ⟨h, i, x, y, z, rfl⟩)) h i x y z s
  case dropListen.refl h i => exact doDropListen_acts (.inr (.inr ⟨h, i, rfl⟩)) h i s
  case joinGroups.refl h m => exact doJoinGroups_acts h m s
  case sendCue.refl h m c => exact doSendCue_acts h m c s
  case dropCues.refl h c => exact doDropCues_acts h c s
  case listCues.refl h f => exact doListCues_acts h f s
  case stageSnapshot.refl h c keep => exact doStageSnapshot_acts h c keep s
  case stageRearm.refl h c keep => exact doStageRearm_acts h c keep s
  case setSensorMode.refl h p m => exact doSetSensorMode_acts h p m s
  case portReset.refl h p => exact doPortReset_acts h p s
  case setWatch.refl h i w => exact doSetWatch_acts h i w s
  case clearWatch.refl h i => exact doClearWatch_acts h i s
  case rearm.refl h i => exact doRearm_acts h i s
  case queueNotes.refl h st ns => exact doQueueNotes_acts h st ns s
  case startSound.refl h c keep => exact doStartSound_acts h c keep s
  case stopSound.refl h a c keep => exact doStopSound_acts h a c keep s
  case clearSound.refl h => exact doClearSound_acts h s
  case setVolume.refl h m k => exact doSetVolume_acts h m k s
  case configFault.refl h a b c d e f => exact doConfigFault_acts h a b c d e f s
  case halt.refl h a b c d => exact doHalt_acts h a b c d s
  case clearFault.refl h => exact doClearFault_acts (.inr ⟨h, rfl⟩) h s
  case setKeepalive.refl h p => exact doSetKeepalive_acts h p s
  case setEventMask.refl h m => exact doSetEventMask_acts h m s
  case readStatus.refl h x => exact doReadStatus_acts h x s
  case restart.refl h => exact restartBlocks_acts (.inr (.inr ⟨h, rfl⟩)) h s
  case startBitSeen.refl =>
    split
    · rename_i hs
      exact setLink_acts ⟨rfl, rfl, rfl, rfl, .inr (by simp [hs])⟩
    · exact .refl s
  case lengthAbove40Read.refl n =>
    split
    · rename_i hs
      exact ite_acts (fun _ => setLink_acts ⟨rfl, rfl, rfl, rfl, .inr (by simp [hs])⟩) none_of
    · exact .refl s
  case firstFallingEdge.refl p => exact ite_acts (fun _ => modPort_acts p _ s) none_of
  case tabletBadMessage.refl => exact ite_acts (fun _ => badTabletMessage_acts s) none_of

/-- The commands that wait are none of an act's business. -/
theorem Act.with_pending {s t : State} (h : Act s t) : t.pending = s.pending := by
  cases h
  case halt => rw [haltStation_eq]
  case offer => simp
  case record => simp
  case tick => unfold Machine.tick; split <;> rfl
  all_goals rfl

theorem Deed.with_pending {k : Licence} {s t : State} (h : Deed k s t) : t.pending = s.pending := by
  cases h
  case publish => simp
  all_goals rfl

/-- Settles O2: no act and no deed touches the commands that wait. -/
theorem commandsKeepQueue : Obligations.CommandsKeepQueue := fun _ s _ h =>
  (exec_acts h).induct (P := fun u => u.pending = s.pending) (fun a hu => a.with_pending.trans hu)
    (fun _ d hu => d.with_pending.trans hu) rfl

end Sys2Proof.Machine
end

section
/-! PROOFS. What acts leave of the station's identity, of halts, of step counts and of mirror values. -/

namespace Sys2Proof.Machine

/-! ## The straps, the own number and the rate (R1, R178) -/

/-- The straps, and the identity read from them. -/
structure SameIdentity (s t : State) : Prop where
  straps : t.straps = s.straps
  own : t.link.own = s.link.own
  rate : t.link.rate = s.link.rate

theorem SameIdentity.trans {s t u : State} (a : SameIdentity s t) (b : SameIdentity t u) : SameIdentity s u :=
  ⟨b.straps.trans a.straps, b.own.trans a.own, b.rate.trans a.rate⟩

theorem Keeps.identity {s t : State} (h : Keeps s t) : SameIdentity s t := ⟨h.straps, h.own, h.rate⟩

theorem claimStart_own (l : Link) : (claimStart l).own = l.own := by rw [claimStart_shape]

theorem claimStart_rate (l : Link) : (claimStart l).rate = l.rate := by rw [claimStart_shape]

theorem Act.identity {s t : State} (h : Act s t) : SameIdentity s t := by
  cases h
  case halt => exact (haltStation_keeps _ s).identity
  case offer => exact (offer_keeps _ _ s).identity
  case claim => exact ⟨rfl, claimStart_own _, claimStart_rate _⟩
  case line hl => exact ⟨rfl, hl.own, hl.rate⟩
  case record => exact ⟨by simp, by simp, by simp⟩
  case tick => unfold Machine.tick; split <;> exact ⟨rfl, rfl, rfl⟩
  all_goals exact ⟨rfl, rfl, rfl⟩

/-- The own number and the rate are those of the straps last read. -/
def OwnsStraps (s : State) : Prop := s.link.own = s.straps.stn ∧ s.link.rate = s.straps.rate

theorem OwnsStraps.of_same {s t : State} (h : SameIdentity s t) (hs : OwnsStraps s) : OwnsStraps t := by
  obtain ⟨ho, hr⟩ := hs
  rw [OwnsStraps, h.own, h.rate, h.straps]
  exact ⟨ho, hr⟩

/-- A deed other than the reading of the straps keeps them, and a reset's identity is theirs. -/
theorem Deed.straps_or {k : Licence} {s t : State} (h : Deed k s t) (hk : k ≠ .straps) :
    t.straps = s.straps ∧ (OwnsStraps s → OwnsStraps t) := by
  cases h
  case reset => exact ⟨rfl, fun _ => ⟨rfl, rfl⟩⟩
  case restart => exact ⟨rfl, fun _ => ⟨rfl, rfl⟩⟩
  case straps => exact absurd rfl hk
  case detach hl => exact ⟨rfl, .of_same ⟨rfl, hl.own, hl.rate⟩⟩
  case publish => exact ⟨offer_straps _ _ s, .of_same (offer_keeps _ _ s).identity⟩
  all_goals exact ⟨rfl, .of_same ⟨rfl, rfl, rfl⟩⟩

theorem resetEnd_straps (p : Straps) (b : Nat) (d : Int) (up : Bool) (s : State) :
    SameIdentity { s with straps := p, link := linkStart p } (resetEnd p b d up s) := by
  have later (u : State) : SameIdentity u (temperatureStep d (vbatStep u)) :=
    Acts.induct (P := SameIdentity u) (L := fun _ => False) ((vbatStep_acts u).trans (temperatureStep_acts d _))
      (fun a hu => hu.trans a.identity) (fun hk => hk.elim) ⟨rfl, rfl, rfl⟩
  have parts : resetEnd p b d up s = temperatureStep d (vbatStep (readLinkUp up { s with
      inReset := false, straps := p, link := linkStart p
      supply := { s.supply with window := Vector.replicate 16 b } })) := rfl
  rw [parts]
  refine SameIdentity.trans ?_ (later _)
  cases up <;> exact ⟨rfl, rfl, rfl⟩

/-- Settles O3: RESET_END alone reads the straps; every other deed keeps them, and a reset takes its identity from them. -/
theorem identityFollowsStraps : Obligations.IdentityFollowsStraps := by
  intro c s t ho hr h
  by_cases hc : may c .straps
  · obtain ⟨p, b, d, up, rfl⟩ := hc
    cases h
    split
    · have same := resetEnd_straps p b d up s
      exact ⟨same.own.trans (by rw [same.straps]; rfl), same.rate.trans (by rw [same.straps]; rfl),
        .inr ⟨p, b, d, up, rfl, same.straps⟩⟩
    · exact ⟨ho, hr, .inl rfl⟩
  · have kept : t.straps = s.straps ∧ OwnsStraps t :=
      (exec_acts h).induct (P := fun u => u.straps = s.straps ∧ OwnsStraps u)
        (fun a ⟨hu, hi⟩ => ⟨a.identity.straps.trans hu, hi.of_same a.identity⟩)
        (fun hk d ⟨hu, hi⟩ => by
          obtain ⟨hs, hi'⟩ := d.straps_or (by rintro rfl; exact hc hk)
          exact ⟨hs.trans hu, hi' hi⟩) ⟨rfl, ho, hr⟩
    exact ⟨kept.2.1, kept.2.2, .inl kept.1⟩

/-! ## What every channel rule leaves -/

/-- A channel's holds, its step count, and whether its mode is a stopped one. -/
structure SameHold (x y : Channel) : Prop where
  stopped : y.mode.stopped = x.mode.stopped
  haltFlag : y.haltFlag = x.haltFlag
  tripHolders : y.tripHolders = x.tripHolders
  position : y.position = x.position

theorem SameHold.trans {x y z : Channel} (a : SameHold x y) (b : SameHold y z) : SameHold x z :=
  ⟨b.stopped.trans a.stopped, b.haltFlag.trans a.haltFlag, b.tripHolders.trans a.tripHolders,
    b.position.trans a.position⟩

theorem lowerLimit_sameHold (n : Nat) (x : Channel) : SameHold x (lowerLimit n x) := by
  unfold lowerLimit
  split
  · simp only
    split <;> exact ⟨rfl, rfl, rfl, rfl⟩
  · exact ⟨rfl, rfl, rfl, rfl⟩

theorem adoptParams_sameHold (x : Channel) : SameHold x (adoptParams x) := by
  unfold adoptParams
  split
  · exact ⟨rfl, rfl, rfl, rfl⟩
  · rename_i p _
    have adopted : SameHold x { x with
        params := p, pendingParams := none, mode := clampSetSpeed p.vmax x.mode, stall := min x.stall p.stallTime } :=
      ⟨by cases x.mode <;> rfl, rfl, rfl, rfl⟩
    exact adopted.trans (lowerLimit_sameHold p.limit _)

theorem changeKind_sameHold (k : ChanKind) (x : Channel) : SameHold x (changeKind k x) := by
  unfold changeKind
  split
  · exact ⟨rfl, rfl, rfl, rfl⟩
  · split <;> exact ⟨rfl, rfl, rfl, rfl⟩

theorem loadCompare_sameHold (x : Channel) : SameHold x (loadCompare x) := by
  unfold loadCompare
  split
  · exact ⟨rfl, rfl, rfl, rfl⟩
  · split
    · exact ⟨rfl, rfl, rfl, rfl⟩
    · split <;> exact ⟨rfl, rfl, rfl, rfl⟩

theorem profileStage_sameHold (x : Channel) : SameHold x (profileStage x) := by
  unfold profileStage
  split <;> exact ⟨rfl, rfl, rfl, rfl⟩

theorem refStage_sameHold (x : Channel) : SameHold x (refStage x) := by
  unfold refStage
  split <;> exact ⟨rfl, rfl, rfl, rfl⟩

theorem driveStage_sameHold (v : Nat) (x : Channel) : SameHold x (driveStage v x).1 := by
  unfold driveStage
  split <;> exact ⟨rfl, rfl, rfl, rfl⟩

theorem enterSetpoint_keeps (sp : MotorSetpoint) (x : Channel) : (enterSetpoint sp x).haltFlag = x.haltFlag ∧
    (enterSetpoint sp x).tripHolders = x.tripHolders ∧ (enterSetpoint sp x).position = x.position := by
  have seed : (seedProfile x).haltFlag = x.haltFlag ∧ (seedProfile x).tripHolders = x.tripHolders ∧
      (seedProfile x).position = x.position := by
    unfold seedProfile
    split <;> exact ⟨rfl, rfl, rfl⟩
  cases sp
  case position => exact seed
  case hold => exact seed
  case follow => exact seed
  all_goals exact ⟨rfl, rfl, rfl⟩

theorem enterStop_stopped (st : Style) (x : Channel) : (enterStop st x).mode.stopped = true := by cases st <;> rfl

/-- A channel rule keeps the holds and the mode's being stopped, stops the channel, lets go of a holder, or enters a mode of a
channel that nothing holds. -/
theorem ChanStep.cases_hold {x y : Channel} (h : ChanStep x y) : SameHold x y ∨
    (y.mode.stopped = true ∧ (x.haltFlag = true → y.haltFlag = true) ∧ y.position = x.position) ∨
    (y.mode = x.mode ∧ y.haltFlag = x.haltFlag ∧ (x.tripHolders = 0 → y.tripHolders = 0) ∧ y.position = x.position) ∨
    (y.haltFlag = false ∧ x.haltFlag = false ∧ y.tripHolders = 0 ∧ y.position = x.position) := by
  cases h with
  | enter sp _ hflag hholders =>
    obtain ⟨hf, hh, hp⟩ := enterSetpoint_keeps sp x
    exact .inr (.inr (.inr ⟨hf.trans hflag, hflag, hh.trans hholders, hp⟩))
  | halt st => exact .inr (.inl ⟨enterStop_stopped st x, fun _ => rfl, rfl⟩)
  | trip st b => exact .inr (.inl ⟨enterStop_stopped st x, id, rfl⟩)
  | release b => exact .inr (.inr (.inl ⟨rfl, rfl, fun h0 => by simp [h0], rfl⟩))
  | coast => exact .inr (.inl ⟨rfl, id, rfl⟩)
  | config k p =>
    obtain ⟨hs, hf, hh, hp⟩ := changeKind_sameHold k x
    exact .inl ⟨hs, hf, hh, hp⟩
  | wrap b =>
    obtain ⟨hs, hf, hh, hp⟩ := loadCompare_sameHold x
    exact .inl ⟨hs, hf, hh, hp⟩
  | adopt => exact .inl (adoptParams_sameHold x)
  | measure => exact .inl ⟨rfl, rfl, rfl, rfl⟩
  | held => exact .inl ⟨rfl, rfl, rfl, rfl⟩
  | goal r g g' _ hm => exact .inl ⟨by rw [hm]; rfl, rfl, rfl, rfl⟩
  | lapse => exact .inl ⟨rfl, rfl, rfl, rfl⟩
  | profile => exact .inl (profileStage_sameHold x)
  | settle => exact .inl ⟨rfl, rfl, rfl, rfl⟩
  | ref => exact .inl (refStage_sameHold x)
  | drive v => exact .inl (driveStage_sameHold v x)

theorem ChanStep.position {x y : Channel} (h : ChanStep x y) : y.position = x.position := by
  rcases h.cases_hold with h | ⟨-, -, h⟩ | ⟨-, -, -, h⟩ | ⟨-, -, -, h⟩
  · exact h.position
  · exact h
  · exact h
  · exact h

theorem ChanStep.haltFlag {x y : Channel} (h : ChanStep x y) (hx : x.haltFlag = true) : y.haltFlag = true := by
  rcases h.cases_hold with h | ⟨-, h, -⟩ | ⟨-, h, -⟩ | ⟨-, h, -⟩
  · exact h.haltFlag.trans hx
  · exact h hx
  · exact h.trans hx
  · rw [hx] at h
    cases h

theorem DriveStep.sameHold {sag : Bool} {x y : Channel} (h : DriveStep sag x y) : SameHold x y := by
  cases h <;> exact ⟨rfl, rfl, rfl, rfl⟩

theorem encoderStep_keeps (a b : Bool) (x : Channel) : (encoderStep a b x).mode = x.mode ∧
    (encoderStep a b x).haltFlag = x.haltFlag ∧ (encoderStep a b x).tripHolders = x.tripHolders := by
  unfold encoderStep
  simp only
  split
  · exact ⟨rfl, rfl, rfl⟩
  · split <;> exact ⟨rfl, rfl, rfl⟩

theorem resetPosition_keeps (v : Word) (x : Channel) : (resetPosition v x).mode.stopped = x.mode.stopped ∧
    (resetPosition v x).haltFlag = x.haltFlag ∧ (resetPosition v x).tripHolders = x.tripHolders := by
  have shifted (d : Word) : (shiftGoal d x.mode).stopped = x.mode.stopped := by cases x.mode <;> rfl
  unfold resetPosition
  simp only
  split <;> exact ⟨shifted _, rfl, rfl⟩

theorem CountStep.keeps {x y : Channel} (h : CountStep x y) : y.mode.stopped = x.mode.stopped ∧
    y.haltFlag = x.haltFlag ∧ y.tripHolders = x.tripHolders := by
  cases h with
  | lines a b => exact ⟨rfl, rfl, rfl⟩
  | encoder a b =>
    obtain ⟨hm, hf, hh⟩ := encoderStep_keeps a b x
    exact ⟨by rw [hm], hf, hh⟩
  | shift v => exact resetPosition_keeps v x

/-! ## What acts leave of the channels -/

theorem forall_chan_setChan {P : Fin 4 → Channel → Prop} {s : State} {c : Fin 4} {x : Channel}
    (h : ∀ d, P d (s.chan d)) (hx : P c (s.chan c) → P c x) (d : Fin 4) : P d ((s.setChan c x).chan d) := by
  rw [chan_setChan]
  split
  · subst d
    exact hx (h c)
  · exact h d

theorem chan_mk {t : State} {f : Fin 4 → Channel} (h : t.chans = Vector.ofFn f) (c : Fin 4) : t.chan c = f c := by
  simp [State.chan, h, Vector.get_eq_getElem]

theorem chan_haltStation (st : Style) (s : State) (c : Fin 4) :
    (haltStation st s).chan c = { enterStop st (s.chan c) with haltFlag := true } :=
  chan_mk (f := fun c => { enterStop st (s.chan c) with haltFlag := true }) (by rw [haltStation_eq]) c

theorem sagAll_eq (s : State) : sagAll s =
    { s with chans := Vector.ofFn fun c => lowerLimit (min 800 (s.chan c).params.limit) (s.chan c) } :=
  forEach_modChan _ s

theorem chan_sagAll (s : State) (c : Fin 4) :
    (sagAll s).chan c = lowerLimit (min 800 (s.chan c).params.limit) (s.chan c) :=
  chan_mk (f := fun c => lowerLimit (min 800 (s.chan c).params.limit) (s.chan c)) (by rw [sagAll_eq]) c

/-- All that a taken CLEAR_FAULT does but for its event (R153). -/
theorem clearFaults_eq (s : State) : clearFaults s = { s with
    fault := { s.fault with
      sources := mapEach unlatch s.fault.sources, manual := none, remote := none, halted := false }
    chans := Vector.ofFn fun c => { s.chan c with haltFlag := false } } := by
  unfold clearFaults clearHalt
  rw [forEach_modChan]
  rfl

theorem chan_clearFaults (s : State) (c : Fin 4) : (clearFaults s).chan c = { s.chan c with haltFlag := false } :=
  chan_mk (f := fun c => { s.chan c with haltFlag := false }) (by rw [clearFaults_eq]) c

/-- An act that gives a channel a new record gives it by a channel rule, the halt of the station, or the cap of SAG. -/
theorem Act.chan_cases {s t : State} (h : Act s t) (c : Fin 4) : t.chan c = s.chan c ∨ ChanStep (s.chan c) (t.chan c) ∨
    t.chan c = lowerLimit (min 800 (s.chan c).params.limit) (s.chan c) := by
  cases h
  case chan d x hx =>
    rw [chan_setChan]
    split
    · subst c
      exact .inr (.inl hx)
    · exact .inl rfl
  case sag => exact .inr (.inr (chan_sagAll _ c))
  case halt st =>
    rw [chan_haltStation]
    exact .inr (.inl (.halt st _))
  case offer => exact .inl (chan_of_chans (by simp) c)
  case record => exact .inl (chan_of_chans (by simp) c)
  case tick => exact .inl (chan_of_chans (by unfold Machine.tick; split <;> rfl) c)
  all_goals exact .inl rfl

theorem Act.chan_position {s t : State} (h : Act s t) (c : Fin 4) : (t.chan c).position = (s.chan c).position := by
  rcases h.chan_cases c with h | h | h
  · rw [h]
  · exact h.position
  · rw [h]
    exact (lowerLimit_sameHold _ _).position

theorem Act.chan_haltFlag {s t : State} (h : Act s t) (c : Fin 4) (hc : (s.chan c).haltFlag = true) :
    (t.chan c).haltFlag = true := by
  rcases h.chan_cases c with h | h | h
  · rw [h, hc]
  · exact h.haltFlag hc
  · rw [h]
    exact (lowerLimit_sameHold _ _).haltFlag.trans hc

theorem Act.halted {s t : State} (h : Act s t) (hs : s.fault.halted = true) : t.fault.halted = true := by
  cases h
  case halt => rw [haltStation_eq]
  case offer => simpa using hs
  case record => simpa using hs
  case tick => unfold Machine.tick; split <;> exact hs
  all_goals exact hs

/-! ## Halts, step counts and mirror values (R36, R69, R72) -/

/-- Settles O4: without a licence to clear or to reset, no act and no deed ends a halt. -/
theorem haltsLastUntilCleared : Obligations.HaltsLastUntilCleared := by
  intro c s t h hclear hrestart hcold hframe hmessage
  have carried : ¬ carries c := by
    rintro (rfl | ⟨b, rfl⟩)
    · exact hframe rfl
    · exact hmessage b rfl
  have deed {k : Licence} {u v : State} (hk : may c k) (d : Deed k u v) :
      v.fault.halted = u.fault.halted ∧ ∀ ch : Fin 4, (v.chan ch).haltFlag = (u.chan ch).haltFlag := by
    cases d with
    | clear => exact (hk.elim carried fun ⟨h, e⟩ => hclear h e).elim
    | reset => exact (hk.elim carried fun e => e.elim hcold fun ⟨h, e⟩ => hrestart h e).elim
    | restart => exact (hk.elim carried fun e => e.elim hcold fun ⟨h, e⟩ => hrestart h e).elim
    | count _ d x hx =>
      refine ⟨rfl, fun ch => ?_⟩
      rw [chan_setChan]
      split
      · subst ch
        exact hx.keeps.2.1
      · rfl
    | drive _ d x hx =>
      refine ⟨rfl, fun ch => ?_⟩
      rw [chan_setChan]
      split
      · subst ch
        exact hx.sameHold.haltFlag
      · rfl
    | publish => exact ⟨by simp, fun ch => by rw [chan_of_chans (offer_chans _ _ u)]⟩
    | unheld => exact ⟨rfl, fun _ => rfl⟩
    | mirror => exact ⟨rfl, fun _ => rfl⟩
    | straps => exact ⟨rfl, fun _ => rfl⟩
    | detach => exact ⟨rfl, fun _ => rfl⟩
  constructor
  · exact fun hs => (exec_acts h).induct (P := fun u => u.fault.halted = true) (fun a hu => a.halted hu)
      (fun hk d hu => (deed hk d).1.trans hu) hs
  · exact fun ch hs => (exec_acts h).induct (P := fun u => (u.chan ch).haltFlag = true) (fun a hu => a.chan_haltFlag ch hu)
      (fun hk d hu => ((deed hk d).2 ch).trans hu) hs

/-- The value of a listen entry, if it is used. -/
def mirrorValue (s : State) (k : Fin 16) : Option Word := (s.entry k).map fun e => e.value

theorem Act.mirror_value {s t : State} (h : Act s t) (k : Fin 16) : mirrorValue t k = mirrorValue s k := by
  unfold mirrorValue
  cases h
  case stale j e he =>
    rw [entry_setEntry]
    split
    · subst k
      rw [he]
      rfl
    · rfl
  case halt => rw [entry_of_listen (haltStation_keeps _ s).listen]
  case offer => rw [entry_of_listen (offer_listen _ _ s)]
  case record => rw [entry_of_listen (placeRecord_listen _ _ _ s)]
  case tick =>
    unfold Machine.tick
    split
    · rfl
    · simp [State.entry, mapEach, Vector.get_eq_getElem, Option.map_map, Function.comp_def, tickEntry]
  all_goals rfl

/-- Settles O5: the motion computation has no licence to count, and no unit but the publication unit writes a mirror. -/
theorem positionsAndMirrorsHold : Obligations.PositionsAndMirrorsHold := by
  constructor
  · intro c s t h hframe hmessage hshift hencoder hrestart hcold ch
    have carried : ¬ carries c := fun e => e.elim hframe fun ⟨b, e⟩ => hmessage b e
    refine (exec_acts h).induct (P := fun u => (u.chan ch).position = (s.chan ch).position)
      (fun a hu => (a.chan_position ch).trans hu) (fun {k u v} hk d hu => Eq.trans ?_ hu) rfl
    cases d with
    | clear => rw [chan_clearFaults]
    | count => exact (hk.elim carried fun e => e.elim (fun ⟨h, c, v, e⟩ => hshift h c v e)
        fun ⟨c, a, b, e⟩ => hencoder c a b e).elim
    | reset => exact (hk.elim carried fun e => e.elim hcold fun ⟨h, e⟩ => hrestart h e).elim
    | restart => exact (hk.elim carried fun e => e.elim hcold fun ⟨h, e⟩ => hrestart h e).elim
    | drive _ d x hx =>
      rw [chan_setChan]
      split
      · subst ch
        exact hx.sameHold.position
      · rfl
    | publish => rw [chan_of_chans (offer_chans _ _ u)]
    | unheld => rfl
    | mirror => rfl
    | straps => rfl
    | detach => rfl
  · intro c s t h hframe hmessage hlisten hdrop hrestart hcold k
    have carried : ¬ carries c := fun e => e.elim hframe fun ⟨b, e⟩ => hmessage b e
    refine (exec_acts h).induct (P := fun u => mirrorValue u k = mirrorValue s k)
      (fun a hu => (a.mirror_value k).trans hu) (fun {l u v} hk d hu => Eq.trans ?_ hu) rfl
    cases d with
    | mirror => exact (hk.elim carried fun e => e.elim (fun ⟨h, i, x, y, z, e⟩ => hlisten h i x y z e)
        fun ⟨h, i, e⟩ => hdrop h i e).elim
    | reset => exact (hk.elim carried fun e => e.elim hcold fun ⟨h, e⟩ => hrestart h e).elim
    | restart => exact (hk.elim carried fun e => e.elim hcold fun ⟨h, e⟩ => hrestart h e).elim
    | publish => exact congrArg _ (entry_of_listen (offer_listen _ _ u) k)
    | unheld => rfl
    | clear => rfl
    | count => rfl
    | drive => rfl
    | straps => rfl
    | detach => rfl

end Sys2Proof.Machine
end

section
/-! PROOFS. The invariants that every act and every deed keeps: Stilled, and those of the cue table, the sound unit, the fault
sources with the listen table, and the tablet port. -/

namespace Sys2Proof.Machine

/-- A predicate that no waiting command matters to is kept by every step if acts and deeds keep it. -/
theorem step_keeps {P : State → Prop} (pending : ∀ s q, P s → P { s with pending := q })
    (act : ∀ {s t}, Act s t → P s → P t) (deed : ∀ {k s t}, Deed k s t → P s → P t) (s t : State) (hs : P s)
    (h : step s = .next t) : P t := by
  unfold step at h
  split at h
  · cases h
    exact act (.tick s) hs
  · exact (exec_acts h).induct act (fun _ d => deed d) (pending s _ hs)

theorem get_mapEach {α β : Type} {n : Nat} (f : α → β) (v : Vector α n) (i : Fin n) :
    (mapEach f v).get i = f (v.get i) := by
  simp [mapEach, Vector.get_eq_getElem]

theorem chan_resetBlocks (s : State) (c : Fin 4) :
    (resetBlocks s).chan c = Channel.reset (s.chan c).line1 (s.chan c).line2 :=
  get_mapEach (fun ch : Channel => Channel.reset ch.line1 ch.line2) s.chans c

/-! ## Halts and trips (R71, R73, R140, R149) -/

/-- A channel that a halt or a watch holds is in COAST or BRAKE. -/
def HeldStopped (x : Channel) : Prop := x.haltFlag = true ∨ x.tripHolders ≠ 0 → x.mode.stopped = true

theorem SameHold.heldStopped {x y : Channel} (h : SameHold x y) (hx : HeldStopped x) : HeldStopped y := by
  intro hy
  rw [h.haltFlag, h.tripHolders] at hy
  exact h.stopped.trans (hx hy)

theorem ChanStep.heldStopped {x y : Channel} (h : ChanStep x y) (hx : HeldStopped x) : HeldStopped y := by
  rcases h.cases_hold with h | ⟨h, -, -⟩ | ⟨hm, hf, hh, -⟩ | ⟨hf, -, hh, -⟩
  · exact h.heldStopped hx
  · exact fun _ => h
  · intro hy
    rw [hm]
    exact hx (hy.imp (fun e => hf ▸ e) fun e e0 => e (hh e0))
  · intro hy
    rw [hf] at hy
    exact hy.elim nofun fun e => absurd hh e

theorem CountStep.heldStopped {x y : Channel} (h : CountStep x y) (hx : HeldStopped x) : HeldStopped y := by
  obtain ⟨hm, hf, hh⟩ := h.keeps
  intro hy
  rw [hf, hh] at hy
  exact hm.trans (hx hy)

/-- The player is STOPPED and nothing is queued. -/
def Still (x : Sound) : Prop := x.player = .stopped ∧ x.queue = []

theorem stopAction_still {a : StopArg} {x : Sound} (h : Still x) : Still (stopAction a x) := by
  obtain ⟨hp, hq⟩ := h
  unfold stopAction
  split
  · unfold stopNow
    rw [hp]
    exact ⟨hp, hq⟩
  · exact ⟨hp, hq⟩
  · exact ⟨hp, hq⟩

theorem SoundStep.still {x y : Sound} (h : SoundStep true x y) (hx : Still x) : Still y := by
  obtain ⟨hp, hq⟩ := hx
  have stop : Machine.stopNow x = x := by
    unfold Machine.stopNow
    rw [hp]
  cases h with
  | stop => exact ⟨rfl, hq⟩
  | stopNow => rw [stop]; exact ⟨hp, hq⟩
  | action a => exact stopAction_still ⟨hp, hq⟩
  | brownout => exact ⟨rfl, hq⟩
  | clear => rw [stop]; exact ⟨hp, rfl⟩
  | volume m k => exact ⟨hp, hq⟩
  | queue ns _ hrun => cases hrun
  | take n rest arm _ hqueue => rw [hq] at hqueue; cases hqueue
  | play n sag ph c pl _ hplay => rw [hp] at hplay; cases hplay
  | silent c => exact ⟨hp, hq⟩
  | wrap b => exact ⟨hp, hq⟩

theorem stilled_of_same {s t : State} (hf : t.fault.halted = s.fault.halted) (hc : ∀ c, SameHold (s.chan c) (t.chan c))
    (hs : t.sound = s.sound) (h : Stilled s) : Stilled t := by
  obtain ⟨hstill, hheld⟩ := h
  refine ⟨fun ht => ?_, fun c => (hc c).heldStopped (hheld c)⟩
  obtain ⟨flags, hp, hq⟩ := hstill (hf ▸ ht)
  exact ⟨fun c => (hc c).haltFlag.trans (flags c), hs ▸ hp, hs ▸ hq⟩

theorem SameHold.refl (x : Channel) : SameHold x x := ⟨rfl, rfl, rfl, rfl⟩

theorem stilled_of_keeps {s t : State} (hf : t.fault.halted = s.fault.halted) (hc : t.chans = s.chans)
    (hs : t.sound = s.sound) (h : Stilled s) : Stilled t :=
  stilled_of_same hf (fun c => chan_of_chans hc c ▸ .refl _) hs h

theorem stilled_of_running {s : State} (hf : s.fault.halted = false) (hc : ∀ c, HeldStopped (s.chan c)) : Stilled s :=
  ⟨fun h => absurd h (by simp [hf]), hc⟩

theorem stilled_setChan {s : State} {c : Fin 4} {x : Channel} (h : Stilled s)
    (hflag : (s.chan c).haltFlag = true → x.haltFlag = true) (hheld : HeldStopped (s.chan c) → HeldStopped x) :
    Stilled (s.setChan c x) := by
  obtain ⟨hstill, held⟩ := h
  refine ⟨fun ht => ?_, fun d => forall_chan_setChan (P := fun _ => HeldStopped) held hheld d⟩
  obtain ⟨flags, hp, hq⟩ := hstill ht
  exact ⟨fun d => forall_chan_setChan (P := fun _ x => x.haltFlag = true) flags hflag d, hp, hq⟩

theorem Act.stilled {s t : State} (h : Act s t) (hs : Stilled s) : Stilled t := by
  cases h
  case chan c x hx => exact stilled_setChan hs hx.haltFlag hx.heldStopped
  case sound x hx =>
    obtain ⟨hstill, hheld⟩ := hs
    refine ⟨fun ht => ?_, hheld⟩
    obtain ⟨flags, hp, hq⟩ := hstill ht
    rw [show s.fault.halted = true from ht] at hx
    exact ⟨flags, hx.still ⟨hp, hq⟩⟩
  case sag =>
    refine stilled_of_same (s := s) rfl (fun c => ?_) rfl hs
    rw [chan_sagAll]
    exact lowerLimit_sameHold _ (s.chan c)
  case halt st =>
    have chans (c : Fin 4) := chan_haltStation st s c
    refine ⟨fun _ => ⟨fun c => by rw [chans], ?_⟩, fun c _ => ?_⟩
    · rw [haltStation_eq]
      exact ⟨rfl, rfl⟩
    · rw [chans]
      exact enterStop_stopped st (s.chan c)
  case offer => exact stilled_of_keeps (by simp) (by simp) (by simp) hs
  case record => exact stilled_of_keeps (by simp) (by simp) (by simp) hs
  case tick => unfold Machine.tick; split <;> exact hs
  all_goals exact hs

theorem Deed.stilled {k : Licence} {s t : State} (h : Deed k s t) (hs : Stilled s) : Stilled t := by
  have blank (c : Fin 4) : HeldStopped ((resetBlocks s).chan c) := by
    rw [chan_resetBlocks]
    exact fun _ => rfl
  cases h
  case clear =>
    refine stilled_of_running (by rw [clearFaults_eq]) fun c hc => ?_
    rw [chan_clearFaults] at hc ⊢
    exact hs.2 c (hc.elim nofun .inr)
  case count c x hx =>
    obtain ⟨-, hf, -⟩ := hx.keeps
    exact stilled_setChan hs hf.trans hx.heldStopped
  case drive c x hx => exact stilled_setChan hs hx.sameHold.haltFlag.trans hx.sameHold.heldStopped
  case reset => exact stilled_of_running rfl blank
  case restart => exact stilled_of_running rfl blank
  case publish => exact stilled_of_keeps (by simp) (by simp) (by simp) hs
  all_goals exact hs

/-- Settles O6: a held channel only ever enters a stopped mode, and no sound rule acts on a still player. -/
theorem stilledKept : Obligations.StilledKept := fun s t =>
  step_keeps (P := Stilled) (fun _ _ h => h) Act.stilled Deed.stilled s t

/-! ## The cue table (R41, R44) -/

/-- The bounds of a cue table. -/
def TableSafe (t : List CueEntry) : Prop :=
  t.length ≤ 16 ∧ (∀ e ∈ t, 1 ≤ e.cue ∧ e.cue ≤ 15) ∧
  t.Pairwise fun a b => ¬(a.cue = b.cue ∧ a.action.target = b.action.target)

theorem sameSlot_eq_true (e x : CueEntry) :
    sameSlot e x = true ↔ x.cue = e.cue ∧ x.action.target = e.action.target := by simp [sameSlot]

/-- Placing an entry puts it where the one with its cue and target stands, or behind the newest of a table without one. -/
theorem placeEntry_cases {e : CueEntry} {t u : List CueEntry} {n : Nat} (h : placeEntry e t = some (u, n)) :
    (∃ i, ∃ hi : i < t.length, sameSlot e t[i] = true ∧ u = t.set i e ∧ n = i + 1) ∨
    ((∀ x ∈ t, sameSlot e x = false) ∧ t.length < 16 ∧ u = t ++ [e] ∧ n = t.length + 1) := by
  unfold placeEntry at h
  split at h
  · rename_i i hfind
    cases h
    obtain ⟨hi, hslot, -⟩ := List.findIdx?_eq_some_iff_getElem.1 hfind
    exact .inl ⟨i, hi, hslot, rfl, rfl⟩
  · rename_i hfind
    split at h
    · cases h
      exact .inr ⟨List.findIdx?_eq_none_iff.1 hfind, ‹_›, rfl, rfl⟩
    · cases h

theorem TableStep.safe {t u : List CueEntry} (h : TableStep t u) (ht : TableSafe t) : TableSafe u := by
  obtain ⟨hlen, hcue, hpair⟩ := ht
  cases h with
  | keep _ _ hsub =>
    exact ⟨hsub.length_le.trans hlen, fun e he => hcue e (hsub.mem he), hpair.sublist hsub⟩
  | place e _ _ n h1 h15 hplace =>
    rcases placeEntry_cases hplace with ⟨i, hi, hslot, rfl, -⟩ | ⟨hnew, hroom, rfl, -⟩
    · obtain ⟨ecue, etarget⟩ := (sameSlot_eq_true _ _).1 hslot
      refine ⟨by rwa [List.length_set], fun x hx => ?_, ?_⟩
      · rcases List.mem_or_eq_of_mem_set hx with hx | rfl
        · exact hcue x hx
        · exact ⟨h1, h15⟩
      · rw [List.pairwise_iff_getElem] at hpair ⊢
        intro a b ha hb hab
        rw [List.length_set] at ha hb
        have key := hpair a b ha hb hab
        rw [List.getElem_set, List.getElem_set]
        split
        · subst a
          rw [if_neg (by omega)]
          rwa [ecue, etarget] at key
        · split
          · subst b
            rwa [ecue, etarget] at key
          · exact key
    · refine ⟨by rw [List.length_append]; exact hroom, fun x hx => ?_, ?_⟩
      · rcases List.mem_append.1 hx with hx | hx
        · exact hcue x hx
        · obtain rfl := List.mem_singleton.1 hx
          exact ⟨h1, h15⟩
      · refine List.pairwise_append.2 ⟨hpair, List.pairwise_singleton _ _, fun a ha b hb => ?_⟩
        obtain rfl := List.mem_singleton.1 hb
        intro hab
        have := hnew a ha
        rw [(sameSlot_eq_true b a).2 hab] at this
        cases this

theorem Act.table_safe {s t : State} (h : Act s t) (hs : CueSafe s) : CueSafe t := by
  have keep {u : State} (hu : u.cue = s.cue) : CueSafe u := by rwa [CueSafe, hu]
  cases h
  case table u hu => exact hu.safe hs
  case halt => exact keep (by rw [haltStation_eq])
  case offer => exact keep (by simp)
  case record => exact keep (by simp)
  case tick => unfold Machine.tick; split <;> exact hs
  all_goals exact hs

theorem Deed.table_safe {k : Licence} {s t : State} (h : Deed k s t) (hs : CueSafe s) : CueSafe t := by
  have blank : TableSafe [] := ⟨Nat.zero_le _, nofun, .nil⟩
  cases h
  case reset => exact blank
  case restart => exact blank
  case publish => rwa [CueSafe, offer_cue]
  all_goals exact hs

/-- Settles O9: entries are placed in their slot or removed. -/
theorem cueSafeKept : Obligations.CueSafeKept := fun s t =>
  step_keeps (P := CueSafe) (fun _ _ h => h) Act.table_safe Deed.table_safe s t

/-! ## The sound unit (R126, R127, R136) -/

/-- The bounds of the sound unit's record. -/
def SoundInRange (x : Sound) : Prop :=
  x.queue.length ≤ 32 ∧ (∀ n ∈ x.queue, noteSafe n) ∧ (∀ n ∈ x.current.toList, noteSafe n) ∧
  x.master ≤ 15 ∧ x.mark ≤ 31 ∧
  (10 ≤ x.nextCompare ∧ x.nextCompare ≤ 490) ∧ (10 ≤ x.runCompare ∧ x.runCompare ≤ 490)

theorem amplitude_le {v m : Nat} (hv : v ≤ 15) (hm : m ≤ 15) (sag : Bool) : amplitude v m sag ≤ 240 := by
  have hprod : 16 * v * m ≤ 16 * 15 * 15 := Nat.mul_le_mul (Nat.mul_le_mul_left 16 hv) hm
  have ha : 16 * v * m / 15 ≤ 240 := by omega
  unfold amplitude
  simp only
  split <;> omega

/-- Twice the amplitude times a part of half the accumulator's range is at most twice the amplitude. -/
theorem ramp_le (amp p : Nat) (hp : p ≤ 8388608) : 2 * amp * p / 8388608 ≤ 2 * amp :=
  Nat.div_le_of_le_mul (by rw [Nat.mul_comm 8388608]; exact Nat.mul_le_mul_left _ hp)

theorem waveSample_bounds (w : Waveform) (amp : Nat) {p : Nat} (hp : p < 16777216) :
    -(amp : Int) ≤ waveSample w amp p ∧ waveSample w amp p ≤ amp := by
  unfold waveSample
  split
  · split <;> omega
  · split
    · have := ramp_le amp p (by omega)
      omega
    · have := ramp_le amp (p - 8388608) (by omega)
      omega

theorem noteSample_bounds {n : Note} {m : Nat} (hn : noteSafe n) (hm : m ≤ 15) (sag : Bool) {p : Nat}
    (hp : p < 16777216) : -240 ≤ noteSample n m sag p ∧ noteSample n m sag p ≤ 240 := by
  obtain ⟨-, -, -, hv, -⟩ := hn
  have hamp := amplitude_le hv hm sag
  unfold noteSample
  split
  · omega
  · have := waveSample_bounds n.waveform (amplitude n.volume m sag) hp
    omega

theorem silent_compare : 10 ≤ 250 ∧ 250 ≤ 490 := by decide

theorem stopPlayer_inRange {x : Sound} (h : SoundInRange x) : SoundInRange (stopPlayer x) := by
  obtain ⟨hlen, hq, -, rest⟩ := h
  exact ⟨hlen, hq, nofun, rest⟩

theorem stopForBrownout_inRange {x : Sound} (h : SoundInRange x) : SoundInRange (stopForBrownout x) := by
  obtain ⟨hlen, hq, -, hm, hk, -, hr⟩ := h
  exact ⟨hlen, hq, nofun, hm, hk, silent_compare, hr⟩

theorem stopNow_inRange {x : Sound} (h : SoundInRange x) : SoundInRange (stopNow x) := by
  unfold stopNow
  split
  · exact h
  · exact stopForBrownout_inRange h

theorem stopAction_inRange (a : StopArg) {x : Sound} (h : SoundInRange x) : SoundInRange (stopAction a x) := by
  unfold stopAction
  split
  · exact stopNow_inRange h
  · exact h
  · exact h

theorem silence_inRange {x : Sound} (h : SoundInRange x) : SoundInRange (silence x) := by
  obtain ⟨-, -, -, hm, hk, -, hr⟩ := h
  exact ⟨Nat.zero_le _, nofun, nofun, hm, hk, silent_compare, hr⟩

theorem SoundStep.inRange {b : Bool} {x y : Sound} (h : SoundStep b x y) (hx : SoundInRange x) : SoundInRange y := by
  have hx' := hx
  obtain ⟨hlen, hq, hcur, hm, hk, hn, hr⟩ := hx'
  cases h with
  | stop => exact stopPlayer_inRange hx
  | stopNow => exact stopNow_inRange hx
  | action a => exact stopAction_inRange a hx
  | brownout => exact stopForBrownout_inRange hx
  | clear =>
    obtain ⟨-, -, hcur, hrest⟩ := stopNow_inRange hx
    exact ⟨Nat.zero_le _, nofun, hcur, hrest⟩
  | volume m k _ hm hk => exact ⟨hlen, hq, hcur, hm, hk, hn, hr⟩
  | queue ns _ _ hns hroom =>
    refine ⟨?_, fun n hn => (List.mem_append.1 hn).elim (hq n) (hns n), hcur, hm, hk, hn, hr⟩
    show (x.queue ++ ns).length ≤ 32
    rw [List.length_append]
    omega
  | take n rest arm _ hqueue =>
    rw [hqueue] at hlen hq
    refine ⟨Nat.le_of_succ_le hlen, fun m hm => hq m (List.mem_cons_of_mem n hm), fun m hmem => ?_, hm, hk, hn, hr⟩
    obtain rfl : m = n := by simpa using hmem
    exact hq m List.mem_cons_self
  | play n sag ph c pl _ _ hnow =>
    have bounds := noteSample_bounds (hcur n (by simp [hnow])) hm sag x.phase.isLt
    refine ⟨hlen, hq, hcur, hm, hk, ?_, hr⟩
    simp only
    omega
  | silent c => exact ⟨hlen, hq, hcur, hm, hk, silent_compare, hr⟩
  | wrap silent =>
    refine ⟨hlen, hq, hcur, hm, hk, hn, ?_⟩
    cases silent
    · exact hn
    · exact silent_compare

theorem Act.sound_inRange {s t : State} (h : Act s t) (hs : SoundInRange s.sound) : SoundInRange t.sound := by
  cases h
  case sound x hx => exact hx.inRange hs
  case halt =>
    rw [haltStation_eq]
    exact silence_inRange hs
  case offer => simpa using hs
  case record => simpa using hs
  case tick => unfold Machine.tick; split <;> exact hs
  all_goals exact hs

theorem Deed.sound_inRange {k : Licence} {s t : State} (h : Deed k s t) (hs : SoundInRange s.sound) :
    SoundInRange t.sound := by
  have blank : SoundInRange Sound.reset :=
    ⟨Nat.zero_le _, nofun, nofun, Nat.le_refl 15, by decide, silent_compare, silent_compare⟩
  cases h
  case reset => exact blank
  case restart => exact blank
  case publish => rwa [offer_sound]
  all_goals exact hs

/-- Settles O10: a sample of a note within its ranges is within 240 of silence, and every other write is one. -/
theorem soundSafeKept : Obligations.SoundSafeKept := fun s t =>
  step_keeps (P := fun s => SoundInRange s.sound) (fun _ _ h => h) Act.sound_inRange Deed.sound_inRange s t

/-! ## Fault sources, listen entries and the keepalive (R29, R146, R147, R154) -/

/-- Source k spends time in GRACE and only there, and has a reaction and a grace time it may have. -/
def SourceOk (k : Fin 8) (f : FaultSource) : Prop :=
  f.timer.isSome = decide (f.state = .grace) ∧ (4 ≤ k.val → f.reaction ≠ .channelStop) ∧ f.grace ≤ 2000

/-- A used listen entry's age runs while it is FRESH, and its station, item and limit are within their ranges. -/
def EntryOk (e : ListenEntry) : Prop :=
  e.age.isSome = decide (e.state = .fresh) ∧ e.source ≠ 0 ∧ e.source ≠ 15 ∧ validItem e.item = true ∧
  20 ≤ e.limit ∧ e.limit ≤ 2000

/-- Every entry of a place in the listen table, if it is used, is within its ranges. -/
def PlaceOk (x : Option ListenEntry) : Prop := ∀ e ∈ x.toList, EntryOk e

/-- The unit invariant, source by source and entry by entry. -/
def UnitOk (s : State) : Prop :=
  (∀ k, SourceOk k (s.source k)) ∧ (∀ k, PlaceOk (s.entry k)) ∧
  (s.fault.keepTimer.isSome = true → s.fault.keepPeriod ≠ 0)

theorem unitSafe_iff (s : State) : UnitSafe s ↔ UnitOk s := by
  constructor
  · rintro ⟨htimer, hreact, hgrace, hentry, hkeep⟩
    exact ⟨fun k => ⟨htimer k, hreact k, hgrace k⟩, hentry, hkeep⟩
  · rintro ⟨hsource, hentry, hkeep⟩
    exact ⟨fun k => (hsource k).1, fun k => (hsource k).2.1, fun k => (hsource k).2.2, hentry, hkeep⟩

theorem SourceStep.ok {k : Fin 8} {f g : FaultSource} (h : SourceStep k f g) (hf : SourceOk k f) : SourceOk k g := by
  obtain ⟨htimer, hreact, hgrace⟩ := hf
  cases h with
  | condition b => exact ⟨htimer, hreact, hgrace⟩
  | latch => exact ⟨rfl, hreact, hgrace⟩
  | grace => exact ⟨rfl, hreact, hgrace⟩
  | ease => exact ⟨rfl, hreact, hgrace⟩
  | settings r n st g _ hfits hn =>
    refine ⟨htimer, fun hk hr => ?_, hn⟩
    have hr : r = .channelStop := hr
    subst hr
    simp only [reactionFits, decide_eq_true_eq] at hfits
    omega

theorem placeOk_some {e : ListenEntry} : PlaceOk (some e) ↔ EntryOk e := by simp [PlaceOk]

theorem entryOk_stale {e : ListenEntry} (h : EntryOk e) : EntryOk { e with state := .stale, age := none } := by
  obtain ⟨-, h⟩ := h
  exact ⟨rfl, h⟩

theorem MirrorStep.ok {x y : Option ListenEntry} (h : MirrorStep x y) (hx : PlaceOk x) : PlaceOk y := by
  cases h with
  | take e v =>
    obtain ⟨-, h⟩ := placeOk_some.1 hx
    exact placeOk_some.2 ⟨rfl, h⟩
  | make _ source item n h0 h15 hitem hlo hhi => exact placeOk_some.2 ⟨rfl, h0, h15, hitem, hlo, hhi⟩
  | limit e n hlo hhi =>
    obtain ⟨hage, h0, h15, hitem, -, -⟩ := placeOk_some.1 hx
    exact placeOk_some.2 ⟨hage, h0, h15, hitem, hlo, hhi⟩
  | expire e n hlo hhi =>
    obtain ⟨-, h0, h15, hitem, -, -⟩ := placeOk_some.1 hx
    exact placeOk_some.2 ⟨rfl, h0, h15, hitem, hlo, hhi⟩
  | drop => exact nofun

theorem unitOk_of_eq {s t : State} (hf : t.fault.sources = s.fault.sources) (hl : t.listen = s.listen)
    (hk : t.fault.keepTimer.isSome = true → t.fault.keepPeriod ≠ 0) (h : UnitOk s) : UnitOk t := by
  obtain ⟨hsource, hentry, -⟩ := h
  exact ⟨fun k => source_of_sources hf k ▸ hsource k, fun k => entry_of_listen hl k ▸ hentry k, hk⟩

theorem unitOk_setEntry {s : State} {k : Fin 16} {x : Option ListenEntry} (h : UnitOk s)
    (hx : PlaceOk (s.entry k) → PlaceOk x) : UnitOk (s.setEntry k x) := by
  obtain ⟨hsource, hentry, hkeep⟩ := h
  refine ⟨hsource, fun j => ?_, hkeep⟩
  rw [entry_setEntry]
  split
  · exact hx (hentry k)
  · exact hentry j

theorem Act.unitOk {s t : State} (h : Act s t) (hs : UnitOk s) : UnitOk t := by
  have hs' := hs
  obtain ⟨hsource, hentry, hkeep⟩ := hs'
  cases h
  case source k f hf =>
    refine ⟨fun j => ?_, hentry, hkeep⟩
    rw [source_setSource]
    split
    · subst j
      exact hf.ok (hsource k)
    · exact hsource j
  case stale k e he =>
    exact unitOk_setEntry hs fun h => placeOk_some.2 (entryOk_stale (placeOk_some.1 (he ▸ h)))
  case keepalive p t hp => exact ⟨hsource, hentry, hp⟩
  case halt => exact unitOk_of_eq (by rw [haltStation_eq]) (by rw [haltStation_eq]) (by rwa [haltStation_eq]) hs
  case offer => exact unitOk_of_eq (by simp) (by simp) (by simpa using hkeep) hs
  case record => exact unitOk_of_eq (by simp) (by simp) (by simpa using hkeep) hs
  case tick =>
    unfold Machine.tick
    split
    · exact hs
    · refine ⟨fun k => ?_, fun k => ?_, by simpa [countDown] using hkeep⟩
      · obtain ⟨htimer, h⟩ := hsource k
        rw [State.source, get_mapEach]
        exact ⟨Option.isSome_map.trans htimer, h⟩
      · rw [State.entry, get_mapEach]
        have := hentry k
        unfold State.entry at this
        cases he : s.listen.get k with
        | none => exact nofun
        | some e =>
          obtain ⟨hage, h⟩ := placeOk_some.1 (he ▸ this)
          exact placeOk_some.2 ⟨Option.isSome_map.trans hage, h⟩
  all_goals exact hs

theorem unlatch_ok {k : Fin 8} {f : FaultSource} (h : SourceOk k f) : SourceOk k (unlatch f) := by
  obtain ⟨htimer, hreact, hgrace⟩ := h
  unfold unlatch
  split
  · rename_i hl
    exact ⟨by simpa [hl] using htimer, hreact, hgrace⟩
  · exact ⟨htimer, hreact, hgrace⟩

theorem Deed.unitOk {k : Licence} {s t : State} (h : Deed k s t) (hs : UnitOk s) : UnitOk t := by
  have blank : UnitOk (resetBlocks s) := by
    refine ⟨show ∀ k, SourceOk k (FaultUnit.reset.sources.get k) by unfold SourceOk; decide, fun k => ?_, nofun⟩
    have : (resetBlocks s).entry k = none := by simp [resetBlocks, State.reset, State.entry, Vector.get_eq_getElem]
    rw [this]
    exact nofun
  have hs' := hs
  obtain ⟨hsource, hentry, hkeep⟩ := hs'
  cases h
  case clear =>
    rw [clearFaults_eq]
    refine ⟨fun k => ?_, hentry, hkeep⟩
    rw [State.source, get_mapEach]
    exact unlatch_ok (hsource k)
  case mirror k x hx => exact unitOk_setEntry hs hx.ok
  case reset => exact blank
  case restart => exact blank
  case publish => exact unitOk_of_eq (by simp) (by simp) (by simpa using hkeep) hs
  all_goals exact hs

/-- Settles O12: each rule of a source, an entry or the keepalive keeps its own record's ranges. -/
theorem unitSafeKept : Obligations.UnitSafeKept := fun s t hs h =>
  (unitSafe_iff t).2 (step_keeps (P := UnitOk) (fun _ _ h => h) Act.unitOk Deed.unitOk s t ((unitSafe_iff s).1 hs) h)

/-! ## The tablet port (R161, R165, R167, R168) -/

/-- The bounds of the tablet port's record. -/
def TabletOk (x : Tablet) : Prop :=
  usedSegments x.reports ≤ 47 ∧ (x.linkUp = false → x.reports = []) ∧ (∀ r ∈ x.reports, r.length ≤ 60) ∧
  x.lost ≤ 255 ∧ x.badCount ≤ 255 ∧ x.mask &&& ~~~eventMaskAll = 0 ∧ x.relays.length ≤ 8 ∧
  (x.relays.map fun e => e.id).Nodup ∧ ∀ e ∈ x.relays, e.id < x.nextRelay

theorem usedSegments_drop_le (r : List (List Byte)) (n : Nat) : usedSegments (r.drop n) ≤ usedSegments r := by
  unfold usedSegments
  rw [List.map_drop]
  exact ((List.drop_sublist n _).sum_le_sum fun _ _ => Nat.zero_le _)

theorem TabletStep.ok {x y : Tablet} (h : TabletStep x y) (hx : TabletOk x) : TabletOk y := by
  obtain ⟨hseg, hdown, hlen, hlost, hbad, hmask, hroom, hids, hnext⟩ := hx
  cases h with
  | lost n => exact ⟨hseg, hdown, hlen, satAdd_le _ _ _, hbad, hmask, hroom, hids, hnext⟩
  | lostZero => exact ⟨hseg, hdown, hlen, Nat.zero_le _, hbad, hmask, hroom, hids, hnext⟩
  | receive rx => exact ⟨hseg, hdown, hlen, hlost, hbad, hmask, hroom, hids, hnext⟩
  | bad => exact ⟨hseg, hdown, hlen, hlost, satAdd_le _ _ _, hmask, hroom, hids, hnext⟩
  | route r => exact ⟨hseg, hdown, hlen, hlost, hbad, hmask, hroom, hids, hnext⟩
  | answered => exact ⟨hseg, hdown, hlen, hlost, hbad, hmask, hroom, hids, hnext⟩
  | mask m => exact ⟨hseg, hdown, hlen, hlost, hbad, by simp [BitVec.and_assoc], hroom, hids, hnext⟩
  | fall => exact ⟨Nat.zero_le _, fun _ => rfl, nofun, hlost, hbad, hmask, hroom, hids, hnext⟩
  | up rx => exact ⟨hseg, nofun, hlen, hlost, hbad, hmask, hroom, hids, hnext⟩
  | sent =>
    exact ⟨(usedSegments_drop_le _ 1).trans hseg, fun h => by rw [hdown h]; rfl,
      fun r hr => hlen r (List.mem_of_mem_drop hr), hlost, hbad, hmask, hroom, hids, hnext⟩
  | relay e _ hid hfree =>
    refine ⟨hseg, hdown, hlen, hlost, hbad, hmask, by simp only [List.length_append, List.length_singleton]; omega,
      ?_, fun r hr => ?_⟩
    · rw [List.map_append, List.nodup_append]
      refine ⟨hids, List.nodup_singleton _, fun a ha b hb => ?_⟩
      obtain ⟨r, hr, rfl⟩ := List.mem_map.1 ha
      obtain rfl : b = e.id := by simpa using hb
      have := hnext r hr
      omega
    · rcases List.mem_append.1 hr with hr | hr
      · have := hnext r hr
        show r.id < e.id + 1
        omega
      · obtain rfl := List.mem_singleton.1 hr
        exact Nat.lt_succ_self _
  | unrelay id =>
    exact ⟨hseg, hdown, hlen, hlost, hbad, hmask, (List.length_filter_le _ _).trans hroom,
      hids.sublist (List.filter_sublist.map _), fun r hr => hnext r (List.mem_filter.1 hr).1⟩
  | marked id =>
    have sameId (e : Relay) : (if e.id = id then { e with status := .sent } else e).id = e.id := by split <;> rfl
    refine ⟨hseg, hdown, hlen, hlost, hbad, hmask, by rwa [List.length_map], ?_, fun r hr => ?_⟩
    · simpa only [List.map_map, Function.comp_def, sameId] using hids
    · obtain ⟨e, he, rfl⟩ := List.mem_map.1 hr
      rw [sameId]
      exact hnext e he

theorem placeRecord_tablet_ok {n c : Nat} {b : List Byte} {s : State} (hn : 1 ≤ n) (hb : b.length ≤ 60)
    (hup : s.tablet.linkUp = true) (hs : TabletOk s.tablet) : TabletOk (placeRecord n c b s).tablet := by
  have hseg' := placeRecord_leaves_segment (n := n) (c := c) (b := b) hn hs.1
  obtain ⟨hseg, hdown, hlen, hlost, hrest⟩ := hs
  unfold placeRecord at hseg' ⊢
  split at hseg' <;> rename_i hfits
  · rw [if_pos hfits]
    refine ⟨hseg', fun h => ?_, fun r hr => ?_, hlost, hrest⟩
    · rw [show s.tablet.linkUp = false from h] at hup
      cases hup
    · rcases List.mem_append.1 hr with hr | hr
      · exact hlen r hr
      · exact (List.mem_singleton.1 hr) ▸ hb
  · rw [if_neg hfits]
    exact ⟨hseg', hdown, hlen, satAdd_le _ _ _, hrest⟩

theorem Act.tabletOk {s t : State} (h : Act s t) (hs : TabletOk s.tablet) : TabletOk t.tablet := by
  cases h
  case record hn hb hup => exact placeRecord_tablet_ok hn hb hup hs
  case tablet t ht => exact ht.ok hs
  case halt => rwa [haltStation_eq]
  case offer => rwa [offer_tablet]
  case tick =>
    unfold Machine.tick
    split
    · exact hs
    · obtain ⟨hseg, hdown, hlen, hlost, hbad, hmask, hroom, hids, hnext⟩ := hs
      refine ⟨hseg, hdown, hlen, hlost, hbad, hmask, by rwa [List.length_map], ?_, fun r hr => ?_⟩
      · simpa only [List.map_map, Function.comp_def] using hids
      · obtain ⟨e, he, rfl⟩ := List.mem_map.1 hr
        exact hnext e he
  all_goals exact hs

theorem eventMaskAll_ok : eventMaskAll &&& ~~~eventMaskAll = 0 := by simp

theorem Deed.tabletOk {k : Licence} {s t : State} (h : Deed k s t) (hs : TabletOk s.tablet) : TabletOk t.tablet := by
  cases h
  case reset =>
    exact ⟨Nat.zero_le _, fun _ => rfl, nofun, Nat.zero_le _, Nat.zero_le _, eventMaskAll_ok, Nat.zero_le _, .nil, nofun⟩
  case restart =>
    exact ⟨Nat.zero_le _, fun _ => rfl, nofun, Nat.zero_le _, Nat.zero_le _, eventMaskAll_ok, Nat.zero_le _, .nil, nofun⟩
  case publish => rwa [offer_tablet]
  all_goals exact hs

/-- Settles O8: a record is placed where a segment stays free, a relay entry made where one of eight places is. -/
theorem reportSafeKept : Obligations.ReportSafeKept := fun s t =>
  step_keeps (P := fun s => TabletOk s.tablet) (fun _ _ h => h) Act.tabletOk Deed.tabletOk s t

end Sys2Proof.Machine
end

section
/-! PROOFS. The motor invariant (R88, R89, R92): within a control period the duty of its channel alone may exceed Leff, from the
stage that lowers Leff to the output stage. -/

namespace Sys2Proof.Machine

/-! ## One channel -/

/-- A channel's ranges but for its duty's. -/
def RangesOk (x : Channel) : Prop :=
  paramsSafe x.params ∧ (∀ p ∈ x.pendingParams.toList, paramsSafe p) ∧ x.leff ≤ x.params.limit ∧
  x.nextC ≤ 2000 ∧ x.runC ≤ 2000 ∧ x.integ.natAbs ≤ 256000 ∧ x.tf < 8 ∧ x.speed.natAbs ≤ 32767 ∧
  x.stall ≤ x.params.stallTime ∧ x.settle ≤ 20 ∧ x.glitch ≤ 255

/-- A channel's duty lies within Leff (R88). -/
def DutyOk (x : Channel) : Prop := x.duty.natAbs ≤ x.leff

theorem chanSafe_iff (x : Channel) : chanSafe x ↔ RangesOk x ∧ DutyOk x := by
  constructor
  · rintro ⟨hp, hpend, hduty, hrest⟩
    exact ⟨⟨hp, hpend, hrest⟩, hduty⟩
  · rintro ⟨⟨hp, hpend, hrest⟩, hduty⟩
    exact ⟨hp, hpend, hduty, hrest⟩

/-- A change of a channel that keeps its ranges, never raises Leff, and keeps the duty within it. -/
structure ChanSound (x y : Channel) : Prop where
  ranges : RangesOk x → RangesOk y
  leff : y.leff ≤ x.leff
  duty : DutyOk x → DutyOk y

theorem natAbs_clampAbs_le (m : Nat) (x : Int) : (clampAbs m x).natAbs ≤ m := by
  unfold clampAbs clampI
  split
  · omega
  · split <;> omega

theorem compareOf_le (d : Int) : compareOf d ≤ 2 * d.natAbs := by
  unfold compareOf
  split <;> omega

theorem limit_le {x : Channel} (h : paramsSafe x.params) : x.params.limit ≤ 1000 := by
  obtain ⟨-, -, -, -, -, hl, -⟩ := h
  exact hl

/-! ## The limit (R89) -/

theorem lowerLimit_leff (n : Nat) (x : Channel) : (lowerLimit n x).leff = min n x.leff := by
  unfold lowerLimit
  split
  · simp only
    split <;> exact (Nat.min_eq_left (Nat.le_of_lt ‹_›)).symm
  · exact (Nat.min_eq_right (Nat.not_lt.1 ‹_›)).symm

theorem lowerLimit_duty {n : Nat} {x : Channel} (h : DutyOk x) : DutyOk (lowerLimit n x) := by
  unfold lowerLimit
  split
  · simp only
    split
    · exact natAbs_clampAbs_le n _
    · exact Nat.not_lt.1 ‹_›
  · exact h

theorem lowerLimit_nextC {n : Nat} {x : Channel} (hn : n ≤ 1000) (h : x.nextC ≤ 2000) :
    (lowerLimit n x).nextC ≤ 2000 := by
  unfold lowerLimit
  split
  · simp only
    split
    · have hc := compareOf_le (clampAbs n x.duty)
      have hd := natAbs_clampAbs_le n x.duty
      simp only
      omega
    · exact h
  · exact h

/-- The other fields are as they were. -/
theorem lowerLimit_eq (n : Nat) (x : Channel) : lowerLimit n x =
    { x with leff := (lowerLimit n x).leff, duty := (lowerLimit n x).duty, nextC := (lowerLimit n x).nextC } := by
  unfold lowerLimit
  split
  · simp only
    split <;> rfl
  · rfl

theorem lowerLimit_ranges {n : Nat} {x : Channel} (hn : n ≤ x.params.limit)
    (h : RangesOk { x with leff := min n x.leff }) : RangesOk (lowerLimit n x) := by
  obtain ⟨hp, hpend, -, hnext, hrest⟩ := h
  rw [lowerLimit_eq, lowerLimit_leff]
  exact ⟨hp, hpend, (Nat.min_le_left n x.leff).trans hn,
    lowerLimit_nextC (hn.trans (limit_le hp)) hnext, hrest⟩

theorem lowerLimit_sound {n : Nat} {x : Channel} (hn : n ≤ x.params.limit) : ChanSound x (lowerLimit n x) where
  ranges := fun h => by
    obtain ⟨hp, hpend, hl, hrest⟩ := h
    exact lowerLimit_ranges hn ⟨hp, hpend, (Nat.min_le_right n x.leff).trans hl, hrest⟩
  leff := (lowerLimit_leff n x).trans_le (Nat.min_le_right n x.leff)
  duty := lowerLimit_duty

/-! ## Entering modes, configuring and the stages but for the last -/

theorem enterStop_sound (st : Style) (x : Channel) : ChanSound x (enterStop st x) where
  ranges := fun ⟨hp, hpend, hl, _, hrun, _, htf, hspeed, hstall, _, hg⟩ =>
    ⟨hp, hpend, hl, Nat.zero_le _, hrun, Nat.zero_le _, htf, hspeed, hstall, Nat.zero_le _, hg⟩
  leff := Nat.le_refl _
  duty := fun _ => Nat.zero_le _

theorem seedProfile_ranges {x : Channel} (h : RangesOk x) : RangesOk (seedProfile x) := by
  unfold seedProfile
  split
  · exact h
  · obtain ⟨hp, hpend, hl, hnext, hrun, hi, -, hrest⟩ := h
    exact ⟨hp, hpend, hl, hnext, hrun, hi, (by decide : 0 < 8), hrest⟩

theorem seedProfile_drive (x : Channel) : (seedProfile x).leff = x.leff ∧ (seedProfile x).duty = x.duty := by
  unfold seedProfile
  split <;> exact ⟨rfl, rfl⟩

theorem clearMarks_ranges {x : Channel} (h : RangesOk x) : RangesOk (clearMarks x) := by
  obtain ⟨hp, hpend, hl, hnext, hrun, hi, htf, hspeed, hstall, -, hg⟩ := h
  exact ⟨hp, hpend, hl, hnext, hrun, hi, htf, hspeed, hstall, Nat.zero_le _, hg⟩

theorem enterSetpoint_sound (sp : MotorSetpoint) (x : Channel) : ChanSound x (enterSetpoint sp x) := by
  obtain ⟨hleff, hduty⟩ := seedProfile_drive x
  have seeded : RangesOk x → RangesOk (clearMarks (seedProfile x)) := fun h => clearMarks_ranges (seedProfile_ranges h)
  have seedDuty : DutyOk x → DutyOk (seedProfile x) := fun h => by rwa [DutyOk, hleff, hduty]
  cases sp with
  | coast => exact enterStop_sound .coast x
  | brake => exact enterStop_sound .brake x
  | openDrive d =>
    refine ⟨fun h => ?_, Nat.le_refl _, id⟩
    obtain ⟨hp, hpend, hl, hnext, hrun, -, hrest⟩ := clearMarks_ranges h
    exact ⟨hp, hpend, hl, hnext, hrun, Nat.zero_le _, hrest⟩
  | speed v => exact ⟨fun h => have cleared := clearMarks_ranges h; cleared, Nat.le_refl _, id⟩
  | position g => exact ⟨seeded, hleff.le, seedDuty⟩
  | hold => exact ⟨seeded, hleff.le, seedDuty⟩
  | follow r => exact ⟨seeded, hleff.le, seedDuty⟩

theorem clampParams_safe (p : RawParams) : paramsSafe (clampParams p) := by
  have within {lo hi : Nat} (h : lo ≤ hi) (x : Half) := clampN_bounds h x.toNat
  exact ⟨(within (by decide : 0 ≤ 4095) _).2, (within (by decide : 0 ≤ 1023) _).2, Nat.le_of_lt_succ p.kx.isLt,
    within (by decide : 1 ≤ 4000) _, within (by decide : 1 ≤ 400) _, (within (by decide : 0 ≤ 1000) _).2,
    within (by decide : 100 ≤ 3000) _, within (by decide : 100 ≤ 5000) _, Nat.le_of_lt_succ p.tolerance.isLt⟩

theorem changeKind_eq (k : ChanKind) (x : Channel) :
    changeKind k x = { x with kind := (changeKind k x).kind, history := (changeKind k x).history } := by
  unfold changeKind
  split
  · rfl
  · split <;> rfl

theorem config_sound (k : ChanKind) (p : RawParams) (x : Channel) :
    ChanSound x { changeKind k x with pendingParams := some (clampParams p) } := by
  rw [changeKind_eq]
  refine ⟨fun ⟨hp, _, hrest⟩ => ⟨hp, fun q hq => ?_, hrest⟩, Nat.le_refl _, id⟩
  obtain rfl : q = clampParams p := by simpa using hq
  exact clampParams_safe p

theorem wrap_sound (b : BridgePattern) (x : Channel) : ChanSound x { loadCompare x with bridge := b } := by
  have run {c : Nat} {d : Dir} (hc : c = 0 ∨ c = x.nextC) :
      ChanSound x { x with runC := c, runDir := d, bridge := b } := by
    refine ⟨fun ⟨hp, hpend, hl, hnext, _, hrest⟩ => ⟨hp, hpend, hl, hnext, ?_, hrest⟩, Nat.le_refl _, id⟩
    rcases hc with rfl | rfl
    · exact Nat.zero_le _
    · exact hnext
  unfold loadCompare
  split
  · exact run (.inl rfl)
  · split
    · exact run (.inr rfl)
    · split
      · exact run (.inr rfl)
      · exact run (.inl rfl)

theorem adoptParams_sound (x : Channel) : ChanSound x (adoptParams x) := by
  unfold adoptParams
  split
  · exact ⟨id, Nat.le_refl _, id⟩
  · rename_i p hpending
    refine ⟨fun ⟨_, hpend, _, hnext, hrun, hi, htf, hspeed, _, hrest⟩ => ?_, ?_, fun h => lowerLimit_duty h⟩
    · have hp : paramsSafe p := hpend p (by simp [hpending])
      exact lowerLimit_ranges (Nat.le_refl _)
        ⟨hp, nofun, Nat.min_le_left _ _, hnext, hrun, hi, htf, hspeed, Nat.min_le_right _ _, hrest⟩
    · rw [lowerLimit_leff]
      exact Nat.min_le_right _ _

theorem profileStage_sound (x : Channel) : ChanSound x (profileStage x) := by
  unfold profileStage
  split
  · refine ⟨fun ⟨hp, hpend, hl, hnext, hrun, hi, _, hrest⟩ => ⟨hp, hpend, hl, hnext, hrun, hi, ?_, hrest⟩,
      Nat.le_refl _, id⟩
    unfold advance
    simp only
    omega
  · exact ⟨id, Nat.le_refl _, id⟩

theorem refStage_sound (x : Channel) : ChanSound x (refStage x) := by
  unfold refStage
  split <;> exact ⟨id, Nat.le_refl _, id⟩

/-- The regulator keeps the integrator within 256,000 (R85). -/
theorem regulate_integ_le {x : Channel} (h : x.integ.natAbs ≤ 256000) : (regulate x).1.natAbs ≤ 256000 := by
  unfold regulate
  simp only
  split
  · exact h
  · exact natAbs_clampAbs_le _ _

theorem driveStage_sound (v : Nat) (x : Channel) : ChanSound x (driveStage v x).1 := by
  unfold driveStage
  split
  · exact ⟨id, Nat.le_refl _, id⟩
  · exact ⟨id, Nat.le_refl _, id⟩
  · exact ⟨id, Nat.le_refl _, id⟩
  · exact ⟨fun ⟨hp, hpend, hl, hnext, hrun, hi, hrest⟩ => ⟨hp, hpend, hl, hnext, hrun, regulate_integ_le hi, hrest⟩,
      Nat.le_refl _, id⟩

theorem ChanStep.sound {x y : Channel} (h : ChanStep x y) : ChanSound x y := by
  cases h with
  | enter sp => exact enterSetpoint_sound sp x
  | halt st => exact ⟨(enterStop_sound st x).ranges, Nat.le_refl _, (enterStop_sound st x).duty⟩
  | trip st b => exact ⟨(enterStop_sound st x).ranges, Nat.le_refl _, (enterStop_sound st x).duty⟩
  | release b => exact ⟨id, Nat.le_refl _, id⟩
  | coast => exact enterStop_sound .coast x
  | config k p => exact config_sound k p x
  | wrap b => exact wrap_sound b x
  | adopt => exact adoptParams_sound x
  | measure =>
    exact ⟨fun ⟨hp, hpend, hl, hnext, hrun, hi, htf, _, hrest⟩ =>
      ⟨hp, hpend, hl, hnext, hrun, hi, htf, natAbs_clampAbs_le _ _, hrest⟩, Nat.le_refl _, id⟩
  | held =>
    exact ⟨fun ⟨hp, hpend, hl, hnext, hrun, _, htf, hspeed, hstall, _, hg⟩ =>
      ⟨hp, hpend, hl, hnext, hrun, Nat.zero_le _, htf, hspeed, hstall, Nat.zero_le _, hg⟩, Nat.le_refl _, id⟩
  | goal => exact ⟨id, Nat.le_refl _, id⟩
  | lapse => exact ⟨id, Nat.le_refl _, id⟩
  | profile => exact profileStage_sound x
  | settle n m _ hn =>
    exact ⟨fun ⟨hp, hpend, hl, hnext, hrun, hi, htf, hspeed, hstall, _, hg⟩ =>
      ⟨hp, hpend, hl, hnext, hrun, hi, htf, hspeed, hstall, hn, hg⟩, Nat.le_refl _, id⟩
  | ref => exact refStage_sound x
  | drive v => exact driveStage_sound v x

theorem CountStep.sound {x y : Channel} (h : CountStep x y) : ChanSound x y := by
  cases h with
  | lines a b => exact ⟨id, Nat.le_refl _, id⟩
  | encoder a b =>
    unfold encoderStep
    simp only
    split
    · exact ⟨id, Nat.le_refl _, id⟩
    · split
      · exact ⟨id, Nat.le_refl _, id⟩
      · exact ⟨id, Nat.le_refl _, id⟩
      · exact ⟨id, Nat.le_refl _, id⟩
      · exact ⟨fun ⟨hp, hpend, hl, hnext, hrun, hi, htf, hspeed, hstall, hsettle, _⟩ =>
          ⟨hp, hpend, hl, hnext, hrun, hi, htf, hspeed, hstall, hsettle, satAdd_le _ _ _⟩, Nat.le_refl _, id⟩
  | shift v =>
    unfold resetPosition
    simp only
    split <;> exact ⟨id, Nat.le_refl _, id⟩

/-! ## The last stages (R88, R90, R92) -/

theorem ceiling_le (sag : Bool) (x : Channel) :
    ceiling sag x ≤ x.params.limit ∧ (sag = true → ceiling sag x ≤ 800) := by
  unfold ceiling
  split
  · exact ⟨Nat.min_le_left _ _, fun _ => Nat.min_le_right _ _⟩
  · exact ⟨Nat.le_refl _, fun h => absurd h ‹_›⟩

/-- A last stage keeps the ranges, and Leff within the cap of SAG. -/
theorem DriveStep.ranges {sag : Bool} {x y : Channel} (h : DriveStep sag x y) (hx : RangesOk x) :
    RangesOk y ∧ (y.leff = x.leff ∨ (sag = true → y.leff ≤ 800)) := by
  obtain ⟨hp, hpend, hl, hnext, hrun, hi, htf, hspeed, hstall, hrest⟩ := hx
  cases h with
  | limit i =>
    obtain ⟨hceil, hsag⟩ := ceiling_le sag x
    have hfold := (foldback_bounds i (ceiling sag x) x).1
    refine ⟨⟨hp, hpend, hfold.trans hceil, hnext, hrun, hi, htf, hspeed, ?_, hrest⟩, .inr fun hs => hfold.trans (hsag hs)⟩
    show (if _ then _ else _) ≤ x.params.stallTime
    split
    · exact Nat.min_le_left _ _
    · exact Nat.zero_le _
  | output u =>
    refine ⟨⟨hp, hpend, hl, ?_, hrun, hi, htf, hspeed, hstall, hrest⟩, .inl rfl⟩
    refine (compareOf_le _).trans ?_
    have hlimit := limit_le hp
    have hd := natAbs_clampAbs_le x.leff u
    split
    · decide
    · omega

/-- The output stage puts the duty within Leff whatever it was (R88, R92). -/
theorem outputStage_duty (u : Int) (x : Channel) : DutyOk (outputStage (clampAbs x.leff u) x) := by
  show (if _ then _ else _ : Int).natAbs ≤ x.leff
  split
  · exact Nat.zero_le _
  · exact natAbs_clampAbs_le _ _

/-! ## The invariant with a channel within its control period -/

/-- Every channel is within its ranges, and within Leff but for the channels of p. -/
def MotorBut (p : Fin 4 → Prop) (s : State) : Prop :=
  (∀ c, RangesOk (s.chan c) ∧ (p c ∨ DutyOk (s.chan c))) ∧ (s.supply.state = .sag → ∀ c, (s.chan c).leff ≤ 800)

theorem motorSafe_iff (s : State) : MotorSafe s ↔ MotorBut (fun _ => False) s := by
  simp only [MotorSafe, MotorBut, chanSafe_iff, false_or]

theorem motorBut_of_sound {p : Fin 4 → Prop} {s t : State} (hsupply : t.supply.state = .sag → s.supply.state = .sag)
    (hc : ∀ c, ChanSound (s.chan c) (t.chan c)) (h : MotorBut p s) : MotorBut p t := by
  obtain ⟨hchan, hsag⟩ := h
  refine ⟨fun c => ?_, fun ht c => (hc c).leff.trans (hsag (hsupply ht) c)⟩
  obtain ⟨hranges, hduty⟩ := hchan c
  exact ⟨(hc c).ranges hranges, hduty.imp_right (hc c).duty⟩

theorem ChanSound.refl (x : Channel) : ChanSound x x := ⟨id, Nat.le_refl _, id⟩

theorem motorBut_of_eq {p : Fin 4 → Prop} {s t : State} (hsupply : t.supply = s.supply) (hc : t.chans = s.chans)
    (h : MotorBut p s) : MotorBut p t :=
  motorBut_of_sound (fun ht => hsupply ▸ ht) (fun c => chan_of_chans hc c ▸ .refl _) h

theorem motorBut_setChan {p : Fin 4 → Prop} {s : State} {c : Fin 4} {x : Channel} (hx : ChanSound (s.chan c) x)
    (h : MotorBut p s) : MotorBut p (s.setChan c x) :=
  motorBut_of_sound (s := s) (t := s.setChan c x) id
    (fun d => forall_chan_setChan (P := fun d y => ChanSound (s.chan d) y) (fun _ => .refl _) (fun _ => hx) d) h

theorem Act.motorBut {p : Fin 4 → Prop} {s t : State} (h : Act s t) (hs : MotorBut p s) : MotorBut p t := by
  cases h
  case chan c x hx => exact motorBut_setChan hx.sound hs
  case supply x hx =>
    refine motorBut_of_sound (s := s) (fun ht => ?_) (fun c => .refl _) hs
    have ht : x.state = .sag := ht
    exact hx.elim (fun e => e ▸ ht) fun e => absurd ht e
  case sag =>
    obtain ⟨hchan, -⟩ := hs
    refine ⟨fun c => ?_, fun _ c => ?_⟩
    · have sound : ChanSound (s.chan c) ((sagAll (s.withSupply .sag)).chan c) := by
        rw [chan_sagAll]
        exact lowerLimit_sound (Nat.min_le_right _ _)
      obtain ⟨hranges, hduty⟩ := hchan c
      exact ⟨sound.ranges hranges, hduty.imp_right sound.duty⟩
    · rw [chan_sagAll, lowerLimit_leff]
      exact (Nat.min_le_left _ _).trans (Nat.min_le_left _ _)
  case halt st =>
    refine motorBut_of_sound (fun ht => by rwa [haltStation_eq] at ht) (fun c => ?_) hs
    rw [chan_haltStation]
    exact (ChanStep.halt st _).sound
  case offer => exact motorBut_of_eq (by simp) (by simp) hs
  case record => exact motorBut_of_eq (by simp) (by simp) hs
  case tick => unfold Machine.tick; split <;> exact hs
  all_goals exact hs

theorem resetBlocks_motorBut (p : Fin 4 → Prop) (s : State) : MotorBut p (resetBlocks s) := by
  have defaults : paramsSafe Params.defaults := by decide
  refine ⟨fun c => ?_, nofun⟩
  rw [chan_resetBlocks]
  exact ⟨⟨defaults, nofun, Nat.le_refl _, Nat.zero_le _, Nat.zero_le _, Nat.zero_le _, (by decide : 0 < 8), Nat.zero_le _,
    Nat.zero_le _, Nat.zero_le _, Nat.zero_le _⟩, .inr (Nat.zero_le _)⟩

theorem Deed.motorBut {p : Fin 4 → Prop} {k : Licence} {s t : State} (h : Deed k s t) (hk : k ≠ .drive)
    (hs : MotorBut p s) : MotorBut p t := by
  cases h
  case clear =>
    refine motorBut_of_sound (fun ht => by rwa [clearFaults_eq] at ht) (fun c => ?_) hs
    rw [chan_clearFaults]
    exact ⟨id, Nat.le_refl _, id⟩
  case count c x hx => exact motorBut_setChan hx.sound hs
  case reset => exact resetBlocks_motorBut p s
  case restart => exact resetBlocks_motorBut p s
  case drive => exact absurd rfl hk
  case publish => exact motorBut_of_eq (by simp) (by simp) hs
  all_goals exact hs

theorem Acts.motorBut {p : Fin 4 → Prop} {L : Licence → Prop} (hL : ¬ L .drive) {s t : State} (h : Acts L s t)
    (hs : MotorBut p s) : MotorBut p t :=
  h.induct Act.motorBut (fun hk d => d.motorBut (by rintro rfl; exact hL hk)) hs

theorem DriveStep.motorBut {c : Fin 4} {s : State} {x : Channel}
    (h : DriveStep (s.supply.state == .sag) (s.chan c) x) (hs : MotorBut (· = c) s) :
    MotorBut (· = c) (s.setChan c x) := by
  obtain ⟨hchan, hsag⟩ := hs
  obtain ⟨hranges, hleff⟩ := h.ranges (hchan c).1
  refine ⟨fun d => ?_, fun ht d => ?_⟩
  · rw [chan_setChan]
    split
    · exact ⟨hranges, .inl ‹_›⟩
    · exact hchan d
  · have hs : s.supply.state = .sag := ht
    rw [chan_setChan]
    split
    · exact hleff.elim (fun e => e ▸ hsag hs c) fun e => e (by simp [hs])
    · exact hsag hs d

/-- After the output stage of its channel the invariant holds whole. -/
theorem motorBut_output {c : Fin 4} {s : State} (u : Int) (hs : MotorBut (· = c) s) :
    MotorBut (fun _ => False) (s.modChan c fun x => outputStage (clampAbs x.leff u) x) := by
  obtain ⟨hchan, hsag⟩ := (DriveStep.output u (s.chan c)).motorBut hs
  refine ⟨fun d => ⟨(hchan d).1, .inr ?_⟩, hsag⟩
  rw [chan_modChan]
  split
  · exact outputStage_duty u _
  · rename_i hd
    exact (hs.1 d).2.resolve_left hd

theorem controlPeriod_motorBut (c : Fin 4) (current : Nat) {s : State} (hs : MotorBut (fun _ => False) s) :
    MotorBut (fun _ => False) (controlPeriod c current s) := by
  obtain ⟨u, x, v, hu, hx, he⟩ := controlPeriod_parts c current s
  have acts {t w : State} (h : ∀ L, Acts L t w) : MotorBut (· = c) t → MotorBut (· = c) w :=
    (h fun _ => False).motorBut not_false
  have start : MotorBut (· = c) s := ⟨fun d => ⟨(hs.1 d).1, .inr ((hs.1 d).2.resolve_left not_false)⟩, hs.2⟩
  rw [he]
  exact motorBut_output v (acts hx ((DriveStep.limit _ _).motorBut (acts hu start)))

/-- Settles O11: outside a control period every rule keeps the duty within Leff, and a control period ends so. -/
theorem motorSafeKept : Obligations.MotorSafeKept := by
  intro s t hs h
  rw [motorSafe_iff] at hs ⊢
  unfold step at h
  split at h
  · cases h
    exact (Act.tick s).motorBut hs
  · rename_i c rest _
    have hs : MotorBut (fun _ => False) { s with pending := rest } := hs
    by_cases hc : may c .drive
    · obtain ⟨ch, i, rfl⟩ := hc
      cases h
      split
      · exact hs
      · exact controlPeriod_motorBut ch i hs
    · exact (exec_acts h).motorBut hc hs

end Sys2Proof.Machine
end

section
/-! PROOFS. The send queue (R16 to R18, R22): its bounds hold at every moment; that a held PUBLISH frame waits for one in
contention holds from one command to the next. -/

namespace Sys2Proof.Machine

/-! ## The frames of a queue -/

/-- What a frame keeps while it waits or contends. -/
def frameKey (f : Frame) : FrameOwner × Byte × Nat := (f.owner, f.claim, f.spoils)

/-- The bounds of a queue's frames, whichever of them contends. -/
def FramesOk (own : BitVec 4) (q : List Frame) : Prop :=
  q.length ≤ 8 ∧ (q.countP fun f => !f.isHalt) ≤ 7 ∧ q.countP Frame.isPublish ≤ 1 ∧
  ∀ f ∈ q, claimStation f.claim = own ∧ f.spoils < 8

theorem countP_of_key {p : FrameOwner → Bool} {q r : List Frame} (h : r.map frameKey = q.map frameKey) :
    (r.countP fun f => p f.owner) = q.countP fun f => p f.owner := by
  have key (l : List Frame) : (l.countP fun f => p f.owner) = (l.map frameKey).countP fun k => p k.1 := by
    rw [List.countP_map]
    rfl
  rw [key, key, h]

theorem FramesOk.of_key {own : BitVec 4} {q r : List Frame} (h : r.map frameKey = q.map frameKey)
    (hq : FramesOk own q) : FramesOk own r := by
  obtain ⟨hlen, hhalt, hpub, hall⟩ := hq
  refine ⟨?_, (countP_of_key (p := fun o => !(o == .halt)) h).trans_le hhalt,
    (countP_of_key (p := fun o => o == .publish) h).trans_le hpub, fun f hf => ?_⟩
  · rw [← List.length_map frameKey, h, List.length_map]
    exact hlen
  · obtain ⟨g, hg, hk⟩ := List.mem_map.1 (h ▸ List.mem_map_of_mem (f := frameKey) hf)
    have hclaim : g.claim = f.claim := congrArg (·.2.1) hk
    have hspoils : g.spoils = f.spoils := congrArg (·.2.2) hk
    rw [← hclaim, ← hspoils]
    exact hall g hg

theorem FramesOk.sublist {own : BitVec 4} {q r : List Frame} (h : r.Sublist q) (hq : FramesOk own q) : FramesOk own r := by
  obtain ⟨hlen, hhalt, hpub, hall⟩ := hq
  exact ⟨h.length_le.trans hlen, h.countP_le.trans hhalt, h.countP_le.trans hpub, fun f hf => hall f (h.mem hf)⟩

/-! ## Contention -/

theorem contenders_eq_nil {q : List Frame} : contenders q = [] ↔ ∀ f ∈ q, f.contending = false := by
  simp [contenders, List.filter_eq_nil_iff]

theorem contender_eq_none {l : Link} : l.contender = none ↔ contenders l.queue = [] := by
  simp [Link.contender, List.find?_eq_none, contenders_eq_nil]

/-- The one frame in contention. -/
theorem contender_of_mem {l : Link} (h : (contenders l.queue).length ≤ 1) {f : Frame} (hf : f ∈ l.queue)
    (hc : f.contending = true) : l.contender = some f := by
  have hmem : f ∈ contenders l.queue := List.mem_filter.2 ⟨hf, hc⟩
  have hhead : l.contender = (contenders l.queue).head? := (List.head?_filter).symm
  match hl : contenders l.queue, h, hmem with
  | [g], _, hmem =>
    rw [hhead, hl]
    exact congrArg some (List.mem_singleton.1 hmem).symm

theorem contendOldest_key (m : Nat) (q : List Frame) : (contendOldest m q).map frameKey = q.map frameKey := by
  induction q with
  | nil => rfl
  | cons f fs ih =>
    unfold contendOldest
    split
    · rfl
    · rw [List.map_cons, List.map_cons, ih]

theorem contenders_contendOldest (m : Nat) {q : List Frame} (h : contenders q = []) :
    (contenders (contendOldest m q)).length ≤ 1 := by
  induction q with
  | nil => exact Nat.zero_le 1
  | cons f fs ih =>
    have hall := contenders_eq_nil.1 h
    have hf : f.contending = false := hall f List.mem_cons_self
    have hfs : contenders fs = [] := contenders_eq_nil.2 fun g hg => hall g (List.mem_cons_of_mem f hg)
    unfold contendOldest
    split
    · have : contenders ({ f with contending := true } :: fs) = { f with contending := true } :: contenders fs := rfl
      rw [this, hfs]
      exact Nat.le_refl 1
    · have : contenders (f :: contendOldest m fs) = contenders (contendOldest m fs) := by simp [contenders, hf]
      rw [this]
      exact ih hfs

/-- At most one frame is in contention, and one only while SENDING or in the VERDICT state. -/
def ContentionOk (l : Link) : Prop :=
  (contenders l.queue).length ≤ 1 ∧ (contenders l.queue ≠ [] → l.state = .sending ∨ l.state = .verdict)

theorem contentionOk_of_nil {l : Link} (h : contenders l.queue = []) : ContentionOk l :=
  ⟨by rw [h]; exact Nat.zero_le 1, fun hn => absurd h hn⟩

/-- A standalone station is OFFLINE with nothing queued (R22). -/
def OfflineOk (l : Link) : Prop := l.own = 0 ∨ l.own = 15 → l.state = .offline ∧ l.queue = []

/-- A held PUBLISH frame means one in contention (R17). -/
def HeldOk (l : Link) : Prop := l.held.isSome = true → ∃ f ∈ l.queue, f.isPublish = true ∧ f.contending = true

/-- The link invariant but for the held PUBLISH frame. -/
structure QueueOk (l : Link) : Prop where
  frames : FramesOk l.own l.queue
  contention : ContentionOk l
  offline : OfflineOk l

theorem linkSafe_iff (s : State) : LinkSafe s ↔ QueueOk s.link ∧ HeldOk s.link := by
  have standalone : s.standalone = true ↔ s.link.own = 0 ∨ s.link.own = 15 := by simp [State.standalone]
  simp only [LinkSafe, ← List.countP_eq_length_filter, standalone]
  constructor
  · rintro ⟨hlen, hhalt, hpub, hone, hstate, hall, hheld, hoff⟩
    exact ⟨⟨⟨hlen, hhalt, hpub, hall⟩, ⟨hone, hstate⟩, hoff⟩, hheld⟩
  · rintro ⟨⟨⟨hlen, hhalt, hpub, hall⟩, ⟨hone, hstate⟩, hoff⟩, hheld⟩
    exact ⟨hlen, hhalt, hpub, hone, hstate, hall, hheld, hoff⟩

/-! ## CLAIM_START (R7, R16) -/

theorem claimStart_cases (l : Link) : claimStart l = l ∨ ∃ m, l.state = .idle ∧
    claimStart l = { l with state := .sending, gapOpen := false, queue := contendOldest m l.queue } := by
  unfold claimStart
  split
  · rename_i m hs _ _
    exact .inr ⟨m, hs, rfl⟩
  · exact .inl rfl

theorem QueueOk.idle {l : Link} (h : QueueOk l) (hs : l.state = .idle) : contenders l.queue = [] := by
  by_contra hn
  rcases h.contention.2 hn with e | e <;> rw [hs] at e <;> cases e

theorem claimStart_queueOk {l : Link} (h : QueueOk l) : QueueOk (claimStart l) := by
  rcases claimStart_cases l with e | ⟨m, hs, e⟩ <;> rw [e]
  · exact h
  · refine ⟨h.frames.of_key (contendOldest_key m _), ⟨contenders_contendOldest m (h.idle hs), fun _ => .inl rfl⟩,
      fun ho => ?_⟩
    have := (h.offline ho).1
    rw [hs] at this
    cases this

theorem claimStart_heldOk {l : Link} (h : QueueOk l) (hh : HeldOk l) : HeldOk (claimStart l) := by
  rcases claimStart_cases l with e | ⟨m, hs, e⟩ <;> rw [e]
  · exact hh
  · intro hheld
    obtain ⟨f, hf, -, hc⟩ := hh hheld
    rw [contenders_eq_nil.1 (h.idle hs) f hf] at hc
    cases hc

/-! ## Offers (R16 to R18) -/

theorem claimOf_station (c : BitVec 2) (n : BitVec 4) (u : BitVec 2) : claimStation (claimOf c n u) = n := by
  unfold claimStation claimOf
  ext i hi
  have hlow : ¬ 2 + i < 2 := by omega
  rw [BitVec.getElem_extractLsb', BitVec.getLsbD_append, BitVec.getLsbD_append]
  simp [hlow, hi]

theorem framesOk_append {own : BitVec 4} {q : List Frame} {f : Frame} (hq : FramesOk own q)
    (hf : claimStation f.claim = own ∧ f.spoils < 8) (hroom : roomFor f.isHalt q = true)
    (hpub : f.isPublish = true → q.countP Frame.isPublish = 0) : FramesOk own (q ++ [f]) := by
  obtain ⟨hlen, hhalt, hone, hall⟩ := hq
  simp only [roomFor, Bool.and_eq_true, decide_eq_true_eq, Bool.or_eq_true, ← List.countP_eq_length_filter] at hroom
  refine ⟨by rw [List.length_append, List.length_singleton]; omega, ?_, ?_, fun g hg => ?_⟩
  · rw [List.countP_append, List.countP_singleton]
    cases hk : f.isHalt
    · have := hroom.2.resolve_left (by simp [hk])
      simp only [Bool.not_false, if_true]
      omega
    · simpa using hhalt
  · rw [List.countP_append, List.countP_singleton]
    cases hk : f.isPublish
    · simpa using hone
    · rw [hpub hk]
      simp
  · rcases List.mem_append.1 hg with hg | hg
    · exact hall g hg
    · exact List.mem_singleton.1 hg ▸ hf

theorem contenders_append {q : List Frame} {f : Frame} (h : f.contending = false) :
    contenders (q ++ [f]) = contenders q := by simp [contenders, h]

theorem waitingPublish_eq_true {f : Frame} : f.waitingPublish = true ↔ f.isPublish = true ∧ f.contending = false := by
  simp [Frame.waitingPublish]

theorem contenders_replacePublish {f : Frame} (h : f.contending = false) (q : List Frame) :
    contenders (replacePublish f q) = contenders q := by
  unfold replacePublish contenders
  induction q with
  | nil => rfl
  | cons g gs ih =>
    cases hw : g.waitingPublish
    · simp only [List.map_cons, hw, Bool.false_eq_true, if_false, List.filter_cons, ih]
    · simp [hw, h, (waitingPublish_eq_true.1 hw).2, ih]

theorem countP_replacePublish {f : Frame} (hf : f.isPublish = true) (p : FrameOwner → Bool) (q : List Frame) :
    ((replacePublish f q).countP fun g => p g.owner) = q.countP fun g => p g.owner := by
  unfold replacePublish
  rw [List.countP_map]
  refine List.countP_congr fun g _ => ?_
  rw [Function.comp_apply]
  split
  · rename_i hw
    have hfo : f.owner = .publish := by simpa [Frame.isPublish] using hf
    have hgo : g.owner = .publish := by simpa [Frame.isPublish] using (waitingPublish_eq_true.1 hw).1
    rw [hfo, hgo]
  · rfl

theorem framesOk_replacePublish {own : BitVec 4} {q : List Frame} {f : Frame} (hq : FramesOk own q)
    (hf : claimStation f.claim = own ∧ f.spoils < 8) (hpub : f.isPublish = true) : FramesOk own (replacePublish f q) := by
  obtain ⟨hlen, hhalt, hone, hall⟩ := hq
  refine ⟨by rwa [replacePublish, List.length_map],
    (countP_replacePublish hpub (fun o => !(o == .halt)) q).trans_le hhalt,
    (countP_replacePublish hpub (fun o => o == .publish) q).trans_le hone, fun g hg => ?_⟩
  obtain ⟨x, hx, rfl⟩ := List.mem_map.1 hg
  split
  · exact hf
  · exact hall x hx

/-- What the send queue does with a frame it takes, case by case. -/
theorem enqueue_cases {f : Frame} {l m : Link} (h : enqueue f l = some m) :
    (f.isPublish = true ∧ (∃ g ∈ l.queue, g.isPublish = true ∧ g.contending = true) ∧ m = { l with held := some f }) ∨
    (f.isPublish = true ∧ (∀ g ∈ l.queue, ¬(g.isPublish = true ∧ g.contending = true)) ∧
      m = { l with queue := replacePublish f l.queue }) ∨
    (roomFor f.isHalt l.queue = true ∧ (f.isPublish = true → ∀ g ∈ l.queue, g.isPublish = false) ∧
      m = { l with queue := l.queue ++ [f] }) ∨
    (f.isPublish = false ∧ (∃ g ∈ l.queue, g.waitingPublish = true) ∧
      m = { l with queue := dropWaitingPublish l.queue ++ [f] }) := by
  unfold enqueue at h
  split at h
  · rename_i hp
    have hhalt : f.isHalt = false := by
      have : f.owner = .publish := by simpa [Frame.isPublish] using hp
      simp [Frame.isHalt, this]
    split at h
    · rename_i hany
      cases h
      exact .inl ⟨hp, by simpa using hany, rfl⟩
    · rename_i hany
      have none : ∀ g ∈ l.queue, ¬(g.isPublish = true ∧ g.contending = true) := by simpa using hany
      split at h
      · cases h
        exact .inr (.inl ⟨hp, none, rfl⟩)
      · rename_i hwait
        split at h
        · rename_i hroom
          cases h
          refine .inr (.inr (.inl ⟨hhalt ▸ hroom, fun _ g hg => ?_, rfl⟩))
          have waiting : ∀ x ∈ l.queue, ¬ x.waitingPublish = true := by simpa using hwait
          by_contra hgp
          have hgp : g.isPublish = true := by simpa using hgp
          cases hc : g.contending
          · exact waiting g hg (waitingPublish_eq_true.2 ⟨hgp, hc⟩)
          · exact none g hg ⟨hgp, hc⟩
        · cases h
  · rename_i hp
    split at h
    · rename_i hroom
      cases h
      exact .inr (.inr (.inl ⟨hroom, fun e => absurd e hp, rfl⟩))
    · split at h
      · rename_i hany
        cases h
        exact .inr (.inr (.inr ⟨by simpa using hp, by simpa using hany, rfl⟩))
      · cases h

/-- A waiting PUBLISH frame taken out leaves room for a frame that is none. -/
theorem framesOk_displace {own : BitVec 4} {q : List Frame} {f : Frame} (hq : FramesOk own q)
    (hf : claimStation f.claim = own ∧ f.spoils < 8) (hpub : f.isPublish = false)
    (hany : ∃ g ∈ q, g.waitingPublish = true) : FramesOk own (dropWaitingPublish q ++ [f]) := by
  obtain ⟨a, l₁, l₂, -, hw, rfl, herase⟩ := List.exists_of_eraseP hany.choose_spec.1 hany.choose_spec.2
  have hpa : a.isPublish = true := (waitingPublish_eq_true.1 hw).1
  have hha : a.isHalt = false := by
    have : a.owner = .publish := by simpa [Frame.isPublish] using hpa
    simp [Frame.isHalt, this]
  obtain ⟨hlen, hhalt, hone, hall⟩ := hq
  rw [dropWaitingPublish, herase]
  simp only [List.length_append, List.length_cons, List.countP_append, List.countP_cons, hpa, hha, Bool.not_false,
    if_true] at hlen hhalt hone
  refine ⟨?_, ?_, ?_, fun g hg => ?_⟩
  · simp only [List.length_append, List.length_singleton]
    omega
  · simp only [List.countP_append, List.countP_singleton]
    split <;> omega
  · simp only [List.countP_append, List.countP_singleton, hpub]
    simp only [Bool.false_eq_true, if_false]
    omega
  · simp only [List.mem_append, List.mem_singleton] at hg
    rcases hg with (hg | hg) | rfl
    · exact hall g (List.mem_append_left _ hg)
    · exact hall g (List.mem_append_right _ (List.mem_cons_of_mem a hg))
    · exact hf

theorem contenders_dropWaitingPublish (q : List Frame) : contenders (dropWaitingPublish q) = contenders q := by
  unfold dropWaitingPublish contenders
  induction q with
  | nil => rfl
  | cons g gs ih =>
    cases hw : g.waitingPublish
    · rw [List.eraseP_cons_of_neg (by simp [hw]), List.filter_cons, List.filter_cons, ih]
    · rw [List.eraseP_cons_of_pos hw, List.filter_cons_of_neg (by simp [(waitingPublish_eq_true.1 hw).2])]

theorem enqueue_queueOk {f : Frame} {l m : Link} (h : enqueue f l = some m) (hl : QueueOk l)
    (hf : claimStation f.claim = l.own ∧ f.spoils < 8) (hc : f.contending = false) (ho : ¬(l.own = 0 ∨ l.own = 15)) :
    QueueOk m := by
  have keep {q : List Frame} (hq : FramesOk l.own q) (hqc : contenders q = contenders l.queue) :
      QueueOk { l with queue := q } := by
    refine ⟨hq, ?_, fun h => absurd h ho⟩
    unfold ContentionOk
    rw [hqc]
    exact hl.contention
  rcases enqueue_cases h with ⟨-, -, rfl⟩ | ⟨hp, -, rfl⟩ | ⟨hroom, hp, rfl⟩ | ⟨hp, hany, rfl⟩
  · exact ⟨hl.frames, hl.contention, hl.offline⟩
  · exact keep (framesOk_replacePublish hl.frames hf hp) (contenders_replacePublish hc _)
  · exact keep (framesOk_append hl.frames hf hroom fun e => List.countP_eq_zero.2 (by simpa using hp e))
      (contenders_append hc)
  · exact keep (framesOk_displace hl.frames hf hp hany)
      ((contenders_append hc).trans (contenders_dropWaitingPublish _))

theorem enqueue_heldOk {f : Frame} {l m : Link} (h : enqueue f l = some m) (hl : HeldOk l) : HeldOk m := by
  rcases enqueue_cases h with ⟨-, hex, rfl⟩ | ⟨-, hnone, rfl⟩ | ⟨-, -, rfl⟩ | ⟨-, -, rfl⟩
  · exact fun _ => hex
  · intro hh
    obtain ⟨g, hg, hgp⟩ := hl hh
    exact absurd hgp (hnone g hg)
  · intro hh
    obtain ⟨g, hg, hgp⟩ := hl hh
    exact ⟨g, List.mem_append_left _ hg, hgp⟩
  · intro hh
    obtain ⟨g, hg, hgp, hgc⟩ := hl hh
    have kept : g ∈ dropWaitingPublish l.queue :=
      (List.mem_eraseP_of_neg (by simp [Frame.waitingPublish, hgc])).2 hg
    exact ⟨g, List.mem_append_left _ kept, hgp, hgc⟩

theorem offer_link_cases (o : FrameOwner) (p : List Byte) (s : State) : (offer o p s).1.link = s.link ∨
    ∃ m, ¬(s.link.own = 0 ∨ s.link.own = 15) ∧ enqueue (newFrame s.link.own o p) s.link = some m ∧
      (offer o p s).1.link = claimStart m := by
  unfold offer
  split
  · exact .inl rfl
  · rename_i hs
    split
    · rename_i m hm
      exact .inr ⟨m, by simpa [State.standalone] using hs, hm, rfl⟩
    · exact .inl rfl

theorem newFrame_own (n : BitVec 4) (o : FrameOwner) (p : List Byte) :
    claimStation (newFrame n o p).claim = n ∧ (newFrame n o p).spoils < 8 :=
  ⟨claimOf_station _ _ _, (by decide : 0 < 8)⟩

theorem offer_queueOk {o : FrameOwner} {p : List Byte} {s : State} (h : QueueOk s.link) :
    QueueOk (offer o p s).1.link := by
  rcases offer_link_cases o p s with e | ⟨m, ho, hm, e⟩ <;> rw [e]
  · exact h
  · exact claimStart_queueOk (enqueue_queueOk hm h (newFrame_own _ _ _) rfl ho)

theorem offer_heldOk {o : FrameOwner} {p : List Byte} {s : State} (h : QueueOk s.link) (hh : HeldOk s.link) :
    HeldOk (offer o p s).1.link := by
  rcases offer_link_cases o p s with e | ⟨m, ho, hm, e⟩ <;> rw [e]
  · exact hh
  · exact claimStart_heldOk (enqueue_queueOk hm h (newFrame_own _ _ _) rfl ho) (enqueue_heldOk hm hh)

/-! ## The line's events, withdrawals and detached frames -/

theorem LineStep.queueOk {l m : Link} (h : LineStep l m) (hl : QueueOk l) : QueueOk m := by
  refine ⟨by rw [h.own, h.queue]; exact hl.frames, ⟨by rw [h.queue]; exact hl.contention.1, fun hne => ?_⟩, fun ho => ?_⟩
  · rw [h.queue] at hne
    rcases h.state with e | ⟨-, hs⟩
    · rw [e]
      exact hl.contention.2 hne
    · rcases hs (hl.contention.2 hne) with e | e | e
      · exact .inl e
      · exact .inr e
      · exact absurd (contender_eq_none.1 e) hne
  · rw [h.own] at ho
    obtain ⟨hoff, hempty⟩ := hl.offline ho
    rcases h.state with e | ⟨hon, -⟩
    · exact ⟨e.trans hoff, h.queue.trans hempty⟩
    · exact absurd hoff hon

theorem LineStep.heldOk {l m : Link} (h : LineStep l m) (hl : HeldOk l) : HeldOk m := by
  unfold HeldOk
  rw [h.held, h.queue]
  exact hl

theorem withdraw_queueOk (id : Nat) {s : State} (h : QueueOk s.link) : QueueOk (withdraw id s).link := by
  have same : contenders (withdraw id s).link.queue = contenders s.link.queue := by
    unfold contenders withdraw
    rw [List.filter_filter]
    exact List.filter_congr fun f _ => by cases f.contending <;> rfl
  refine ⟨h.frames.sublist List.filter_sublist, ?_, fun ho => ?_⟩
  · unfold ContentionOk
    rw [same]
    exact h.contention
  · obtain ⟨hoff, hempty⟩ := h.offline ho
    exact ⟨hoff, by simp [withdraw, hempty]⟩

theorem withdraw_heldOk (id : Nat) {s : State} (h : HeldOk s.link) : HeldOk (withdraw id s).link := by
  intro hh
  obtain ⟨f, hf, hp, hc⟩ := h hh
  exact ⟨f, List.mem_filter.2 ⟨hf, by simp [hc]⟩, hp, hc⟩

theorem allWaiting_key (q : List Frame) : (allWaiting q).map frameKey = q.map frameKey := by
  simp only [allWaiting, List.map_map, Function.comp_def]
  rfl

theorem framesOk_countSpoil {own : BitVec 4} {q : List Frame} (h : FramesOk own q)
    (hs : ∀ f ∈ q, f.contending = true → f.spoils + 1 < 8) : FramesOk own (countSpoil q) := by
  obtain ⟨hlen, hhalt, hone, hall⟩ := h
  have same (p : FrameOwner → Bool) : ((countSpoil q).countP fun f => p f.owner) = q.countP fun f => p f.owner := by
    unfold countSpoil
    rw [List.countP_map]
    refine List.countP_congr fun f _ => ?_
    rw [Function.comp_apply]
    split <;> rfl
  refine ⟨by rwa [countSpoil, List.length_map], (same fun o => !(o == .halt)).trans_le hhalt,
    (same fun o => o == .publish).trans_le hone, fun g hg => ?_⟩
  obtain ⟨f, hf, rfl⟩ := List.mem_map.1 hg
  split
  · exact ⟨(hall f hf).1, hs f hf ‹_›⟩
  · exact hall f hf

theorem contenders_countSpoil (q : List Frame) : contenders (countSpoil q) = [] := by
  refine contenders_eq_nil.2 fun g hg => ?_
  obtain ⟨f, -, rfl⟩ := List.mem_map.1 hg
  cases hf : f.contending <;> simp [hf]

theorem contenders_allWaiting (q : List Frame) : contenders (allWaiting q) = [] := by
  refine contenders_eq_nil.2 fun g hg => ?_
  obtain ⟨f, -, rfl⟩ := List.mem_map.1 hg
  rfl

theorem contenders_eraseP {q : List Frame} (h : (contenders q).length ≤ 1) :
    contenders (q.eraseP fun f => f.contending) = [] := by
  have erased : contenders (q.eraseP fun f => f.contending) = (contenders q).tail := by
    unfold contenders
    induction q with
    | nil => rfl
    | cons f fs ih =>
      cases hf : f.contending
      · rw [List.eraseP_cons_of_neg (by simp [hf]), List.filter_cons_of_neg (by simp [hf]),
          List.filter_cons_of_neg (by simp [hf])]
        refine ih ?_
        rwa [contenders, List.filter_cons_of_neg (by simp [hf])] at h
      · rw [List.eraseP_cons_of_pos hf, List.filter_cons_of_pos hf, List.tail_cons]
  rw [erased]
  exact List.eq_nil_of_length_eq_zero (by rw [List.length_tail]; omega)

theorem DetachStep.queueOk {l m : Link} (h : DetachStep l m) (hl : QueueOk l) : QueueOk m := by
  have offline : OfflineOk m := fun ho => by
    rw [h.own] at ho
    exact absurd (hl.offline ho).1 h.online
  rcases h.queue with e | e | ⟨e, hspoils⟩
  · refine ⟨?_, contentionOk_of_nil ?_, offline⟩ <;> rw [e]
    · rw [h.own]
      exact hl.frames.of_key (allWaiting_key _)
    · exact contenders_allWaiting _
  · refine ⟨?_, contentionOk_of_nil ?_, offline⟩ <;> rw [e]
    · rw [h.own]
      exact hl.frames.sublist List.eraseP_sublist
    · exact contenders_eraseP hl.contention.1
  · refine ⟨?_, contentionOk_of_nil ?_, offline⟩ <;> rw [e]
    · rw [h.own]
      exact framesOk_countSpoil hl.frames fun f hf hc => hspoils f (contender_of_mem hl.contention.1 hf hc)
    · exact contenders_countSpoil _

/-! ## Acts and deeds -/

theorem queueOk_empty {l : Link} (hq : l.queue = []) (ho : l.own = 0 ∨ l.own = 15 → l.state = .offline) : QueueOk l :=
  ⟨by rw [hq]; exact ⟨Nat.zero_le _, Nat.zero_le _, Nat.zero_le _, nofun⟩, contentionOk_of_nil (by rw [hq]; rfl),
    fun h => ⟨ho h, hq⟩⟩

theorem linkStart_queueOk (p : Straps) : QueueOk (linkStart p) := by
  refine queueOk_empty rfl fun ho => ?_
  have ho : p.stn = 0 ∨ p.stn = 15 := ho
  show (if p.stn = 0 ∨ p.stn = 15 then LinkState.offline else .listening) = .offline
  rw [if_pos ho]

theorem Act.queueOk {s t : State} (h : Act s t) (hs : QueueOk s.link) : QueueOk t.link := by
  cases h
  case offer => exact offer_queueOk hs
  case claim => exact claimStart_queueOk hs
  case line l hl => exact hl.queueOk hs
  case withdraw id => exact withdraw_queueOk id hs
  case halt => rwa [haltStation_eq]
  case record => rwa [placeRecord_link]
  case tick =>
    unfold Machine.tick
    split
    · exact hs
    · exact ⟨hs.frames, hs.contention, hs.offline⟩
  all_goals exact hs

theorem Act.heldOk {s t : State} (h : Act s t) (hs : QueueOk s.link) (hh : HeldOk s.link) : HeldOk t.link := by
  cases h
  case offer => exact offer_heldOk hs hh
  case claim => exact claimStart_heldOk hs hh
  case line l hl => exact hl.heldOk hh
  case withdraw id => exact withdraw_heldOk id hh
  case halt => rwa [haltStation_eq]
  case record => rwa [placeRecord_link]
  case tick => unfold Machine.tick; split <;> exact hh
  all_goals exact hh

theorem Deed.queueOk {k : Licence} {s t : State} (h : Deed k s t) (hs : QueueOk s.link) : QueueOk t.link := by
  cases h
  case reset => exact queueOk_empty rfl fun _ => rfl
  case restart => exact queueOk_empty rfl fun _ => rfl
  case straps p => exact linkStart_queueOk p
  case detach l hl => exact hl.queueOk hs
  case publish => exact offer_queueOk hs
  case unheld => exact ⟨hs.frames, hs.contention, hs.offline⟩
  all_goals exact hs

theorem Deed.heldOk {k : Licence} {s t : State} (h : Deed k s t) (hk : k ≠ .detach) (hs : QueueOk s.link)
    (hh : HeldOk s.link) : HeldOk t.link := by
  cases h
  case reset => exact nofun
  case restart => exact nofun
  case straps => exact nofun
  case detach => exact absurd rfl hk
  case publish => exact offer_heldOk hs hh
  case unheld => exact nofun
  all_goals exact hh

theorem Acts.queueOk {L : Licence → Prop} {s t : State} (h : Acts L s t) (hs : QueueOk s.link) : QueueOk t.link :=
  h.induct (P := fun u => QueueOk u.link) Act.queueOk (fun _ d => d.queueOk) hs

theorem Acts.linkOk {L : Licence → Prop} (hL : ¬ L .detach) {s t : State} (h : Acts L s t)
    (hs : QueueOk s.link ∧ HeldOk s.link) : QueueOk t.link ∧ HeldOk t.link :=
  h.induct (P := fun u => QueueOk u.link ∧ HeldOk u.link) (fun a ⟨hq, hh⟩ => ⟨a.queueOk hq, a.heldOk hq hh⟩)
    (fun hk d ⟨hq, hh⟩ => ⟨d.queueOk hq, d.heldOk (by rintro rfl; exact hL hk) hq hh⟩) hs

/-- A settled held PUBLISH frame is in the queue, or waits for one in contention (R17). -/
theorem settleHeld_linkOk {s : State} (hs : QueueOk s.link) :
    QueueOk (settleHeld s).link ∧ HeldOk (settleHeld s).link := by
  have none : QueueOk { s.link with held := none } ∧ HeldOk { s.link with held := none } :=
    ⟨⟨hs.frames, hs.contention, hs.offline⟩, nofun⟩
  unfold settleHeld
  split
  · exact ⟨offer_queueOk none.1, offer_heldOk none.1 none.2⟩
  · rename_i hnone
    exact ⟨hs, fun h => by rw [hnone] at h; cases h⟩

theorem SettlesHeld.linkOk {c : Instr} {s t : State} (h : SettlesHeld c s t) (hs : QueueOk s.link ∧ HeldOk s.link) :
    QueueOk t.link ∧ HeldOk t.link := by
  have attached : ¬ mayAttached c .detach := fun h => h.2 rfl
  rcases h with h | ⟨u, hu, ht⟩
  · exact h.linkOk attached hs
  · exact ht.linkOk attached (settleHeld_linkOk (hu.queueOk hs.1))

/-- Settles O7: every command keeps the queue's bounds, and one that detaches a frame settles the held place after it. -/
theorem linkSafeKept : Obligations.LinkSafeKept := by
  intro s t hs h
  rw [linkSafe_iff] at hs ⊢
  unfold step at h
  split at h
  · cases h
    exact ⟨(Act.tick s).queueOk hs.1, (Act.tick s).heldOk hs.1 hs.2⟩
  · rename_i c rest _
    by_cases hc : may c .detach
    · rcases hc with rfl | rfl | rfl | rfl | rfl
      · exact (contentionLoss_settles h).linkOk hs
      · exact (bitClash_settles h).linkOk hs
      · exact (frameDelivered_settles h).linkOk hs
      · exact (frameSpoiled_settles h).linkOk hs
      · exact (lineStuck_settles h).linkOk hs
    · exact (exec_acts h).linkOk hc hs

end Sys2Proof.Machine
end

section
/-! PROOFS. The brick link's contention, losses, spoils and timers: the queue with one frame in contention, the held PUBLISH
frame's return, and what each event of the line does by the link state (R4 to R17, R20, R22). -/

namespace Sys2Proof.Machine

/-! ## A queue with one frame in contention -/

theorem map_eq_self {α : Type} {f : α → α} {l : List α} (h : ∀ x ∈ l, f x = x) : l.map f = l :=
  (List.map_congr_left h).trans (List.map_id l)

theorem waiting_eq_self {f : Frame} (h : f.contending = false) : { f with contending := false } = f := by
  obtain ⟨_, _, _, _, _⟩ := f
  cases h
  rfl

theorem allWaiting_of_waiting {q : List Frame} (h : ∀ f ∈ q, f.contending = false) : allWaiting q = q :=
  map_eq_self fun f hf => waiting_eq_self (h f hf)

theorem contender_of_waiting {l : Link} (h : ∀ f ∈ l.queue, f.contending = false) : l.contender = none :=
  contender_eq_none.2 (contenders_eq_nil.2 h)

section Contender

variable {pre post : List Frame} {f : Frame}

theorem contender_of_split {l : Link} (hq : l.queue = pre ++ f :: post) (hf : f.contending = true)
    (hpre : ∀ g ∈ pre, g.contending = false) : l.contender = some f := by
  have none_before : pre.find? (fun g => g.contending) = none := List.find?_eq_none.2 fun g hg => by simp [hpre g hg]
  rw [Link.contender, hq, List.find?_append, none_before, Option.none_or, List.find?_cons_of_pos hf]

theorem removeContender_of_split {l : Link} (hq : l.queue = pre ++ f :: post) (hf : f.contending = true)
    (hpre : ∀ g ∈ pre, g.contending = false) : l.removeContender = { l with queue := pre ++ post } := by
  rw [Link.removeContender, hq, List.eraseP_append_right _ fun g hg => by simp [hpre g hg], List.eraseP_cons_of_pos hf]

theorem allWaiting_split (hall : ∀ g ∈ pre ++ post, g.contending = false) :
    allWaiting (pre ++ f :: post) = pre ++ { f with contending := false } :: post := by
  have hpre := allWaiting_of_waiting fun g hg => hall g (List.mem_append_left post hg)
  have hpost := allWaiting_of_waiting fun g hg => hall g (List.mem_append_right pre hg)
  unfold allWaiting at hpre hpost ⊢
  rw [List.map_append, List.map_cons, hpre, hpost]

theorem countSpoil_of_waiting {q : List Frame} (h : ∀ g ∈ q, g.contending = false) : countSpoil q = q :=
  map_eq_self fun g hg => by simp [h g hg]

theorem countSpoil_split (hf : f.contending = true) (hall : ∀ g ∈ pre ++ post, g.contending = false) :
    countSpoil (pre ++ f :: post) = pre ++ { f with contending := false, spoils := f.spoils + 1 } :: post := by
  have hpre := countSpoil_of_waiting fun g hg => hall g (List.mem_append_left post hg)
  have hpost := countSpoil_of_waiting fun g hg => hall g (List.mem_append_right pre hg)
  unfold countSpoil at hpre hpost ⊢
  rw [List.map_append, List.map_cons, hpre, hpost, if_pos hf]

end Contender

/-! ## CLAIM_START (R7, R16) -/

theorem claimStart_of_empty {l : Link} (h : l.queue = []) : claimStart l = l := by
  unfold claimStart
  rw [h]
  split
  · rename_i hm; cases hm
  · rfl

theorem claimStart_of_closed {l : Link} (h : l.state ≠ .idle ∨ l.gapOpen = false) : claimStart l = l := by
  rcases claimStart_cases l with e | ⟨m, hs, -⟩
  · exact e
  · have hgap := h.resolve_left fun hn => hn hs
    simp [claimStart, hs, hgap]

theorem claimStart_of_open {l : Link} {m : Nat} (hs : l.state = .idle) (hg : l.gapOpen = true)
    (hm : minClaim l.queue = some m) :
    claimStart l = { l with state := .sending, gapOpen := false, queue := contendOldest m l.queue } := by
  unfold claimStart
  rw [hs, hg, hm]

theorem minClaim_eq_min? (q : List Frame) : minClaim q = (q.map fun f => f.claim.toNat).min? := by
  induction q with
  | nil => rfl
  | cons f fs ih =>
    rw [List.map_cons, List.min?_cons, ← ih, minClaim]
    cases minClaim fs <;> rfl

/-- The smallest claim value of a queue is that of any frame no other undercuts. -/
theorem minClaim_of_mem {q : List Frame} {f : Frame} (hf : f ∈ q) (hle : ∀ g ∈ q, f.claim.toNat ≤ g.claim.toNat) :
    minClaim q = some f.claim.toNat := by
  rw [minClaim_eq_min?, List.min?_eq_some_iff]
  exact ⟨List.mem_map_of_mem hf, by simpa using hle⟩

theorem contendOldest_split {pre post : List Frame} {f : Frame} (hpre : ∀ g ∈ pre, g.claim.toNat ≠ f.claim.toNat) :
    contendOldest f.claim.toNat (pre ++ f :: post) = pre ++ { f with contending := true } :: post := by
  induction pre with
  | nil => exact if_pos rfl
  | cons g gs ih =>
    rw [List.cons_append, contendOldest, if_neg (hpre g List.mem_cons_self),
      ih fun x hx => hpre x (List.mem_cons_of_mem g hx), List.cons_append]

/-! ## The held PUBLISH frame (R17) -/

theorem settleHeld_none {s : State} (h : s.link.held = none) : settleHeld s = s := by
  unfold settleHeld
  rw [h]

theorem settleHeld_some {s : State} {g : Frame} (h : s.link.held = some g) :
    settleHeld s = (offer .publish g.payload (s.modLink fun l => { l with held := none })).1 := by
  unfold settleHeld
  rw [h]

theorem newFrame_publish_isPublish (n : BitVec 4) (p : List Byte) : (newFrame n .publish p).isPublish = true := rfl

theorem replacePublish_split {pre post : List Frame} {f p : Frame} (hp : p.isPublish = true)
    (hc : p.contending = false) (hall : ∀ g ∈ pre ++ post, g.isPublish = false) :
    replacePublish f (pre ++ p :: post) = pre ++ f :: post := by
  have others {q : List Frame} (hq : ∀ g ∈ q, g.isPublish = false) : replacePublish f q = q :=
    map_eq_self fun g hg => by simp [Frame.waitingPublish, hq g hg]
  have hpre := others fun g hg => hall g (List.mem_append_left post hg)
  have hpost := others fun g hg => hall g (List.mem_append_right pre hg)
  unfold replacePublish at hpre hpost ⊢
  rw [List.map_append, List.map_cons, hpre, hpost, if_pos (waitingPublish_eq_true.2 ⟨hp, hc⟩)]

/-- A PUBLISH frame offered while one waits takes its place (R17). -/
theorem enqueue_replaces {l : Link} {pre post : List Frame} {f p : Frame} (hf : f.isPublish = true)
    (hq : l.queue = pre ++ p :: post) (hp : p.isPublish = true) (hc : p.contending = false)
    (hall : ∀ g ∈ pre ++ post, g.isPublish = false) : enqueue f l = some { l with queue := pre ++ f :: post } := by
  have none_contends : (l.queue.any fun g => g.isPublish && g.contending) = false := by
    rw [hq, List.any_eq_false]
    intro g hg
    simp only [List.mem_append, List.mem_cons] at hg
    rcases hg with hg | rfl | hg
    · simp [hall g (List.mem_append_left post hg)]
    · simp [hc]
    · simp [hall g (List.mem_append_right pre hg)]
  have one_waits : l.queue.any Frame.waitingPublish = true :=
    List.any_eq_true.2 ⟨p, by simp [hq], waitingPublish_eq_true.2 ⟨hp, hc⟩⟩
  unfold enqueue
  rw [if_pos hf, if_neg (by simp [none_contends]), if_pos one_waits, hq, replacePublish_split hp hc hall]

theorem offer_standalone {o : FrameOwner} {p : List Byte} {s : State} (h : s.standalone = true) :
    offer o p s = (s, true) := if_pos h

theorem offer_taken {o : FrameOwner} {p : List Byte} {s : State} {m : Link} (h : s.standalone = false)
    (hm : enqueue (newFrame s.link.own o p) s.link = some m) : offer o p s = ({ s with link := claimStart m }, true) := by
  unfold offer
  rw [if_neg (by simp [h]), hm]

theorem offer_refused {o : FrameOwner} {p : List Byte} {s : State} (h : s.standalone = false)
    (hm : enqueue (newFrame s.link.own o p) s.link = none) : offer o p s = (s, false) := by
  unfold offer
  rw [if_neg (by simp [h]), hm]

theorem settleHeld_replaces {s : State} {pre post : List Frame} {g p : Frame} (hs : s.standalone = false)
    (hidle : s.link.state ≠ .idle ∨ s.link.gapOpen = false) (hg : s.link.held = some g)
    (hq : s.link.queue = pre ++ p :: post) (hp : p.isPublish = true) (hc : p.contending = false)
    (hall : ∀ x ∈ pre ++ post, x.isPublish = false) :
    settleHeld s = { s with link := { s.link with
      held := none, queue := pre ++ newFrame s.link.own .publish g.payload :: post } } := by
  have taken : enqueue (newFrame s.link.own .publish g.payload) { s.link with held := none } =
      some { s.link with held := none, queue := pre ++ newFrame s.link.own .publish g.payload :: post } :=
    enqueue_replaces (l := { s.link with held := none }) rfl hq hp hc hall
  have quiet : claimStart { s.link with
      held := none, queue := pre ++ newFrame s.link.own .publish g.payload :: post } = _ := claimStart_of_closed hidle
  rw [settleHeld_some hg, offer_taken (s := s.modLink fun l => { l with held := none }) hs taken]
  exact congrArg (fun l => { s with link := l }) quiet

/-! ## The quiet gap's end (R3, R4, R7, R14) -/

theorem exec_quietGapEnd (s : State) :
    exec .quietGapEnd s = .next { s with link := claimStart (quietGapEnd s.link) } := rfl

theorem quietGapEnd_queue (l : Link) : (quietGapEnd l).queue = l.queue := by
  unfold quietGapEnd
  split <;> rfl

/-- A station that may contend stands in IDLE within an open gap; only a receiver counts a RUNT. -/
theorem quietGapEnd_of_open {l : Link} (h : l.state = .listening ∨ l.state = .idle ∨ l.state = .receiving ∨ l.state = .stuck) :
    quietGapEnd l = { l with
      state := .idle, gapOpen := true,
      rxBroken := (quietGapEnd l).rxBroken, driving := (quietGapEnd l).driving, rxHeld := (quietGapEnd l).rxHeld,
      runt := if l.state = .receiving then bump l.runt else l.runt } := by
  obtain ⟨own, rate, state, rest⟩ := l
  rcases h with h | h | h | h <;> cases h <;> rfl

theorem quietGapEnd_of_dropped {l : Link} (h : l.state = .listening ∨ l.state = .receiving ∨ l.state = .stuck) :
    quietGapEnd l = { l with
      state := .idle, gapOpen := true, rxBroken := false, driving := false, rxHeld := none,
      runt := if l.state = .receiving then bump l.runt else l.runt } := by
  obtain ⟨own, rate, state, rest⟩ := l
  rcases h with h | h | h <;> cases h <;> rfl

theorem quietGapEnd_of_idle {l : Link} (h : l.state = .idle) : quietGapEnd l = { l with gapOpen := true } := by
  unfold quietGapEnd
  rw [h]

theorem quietGapEnd_of_busy {l : Link} (h : l.state = .offline ∨ l.state = .sending ∨ l.state = .verdict) :
    claimStart (quietGapEnd l) = l := by
  have hself : quietGapEnd l = l := by
    unfold quietGapEnd
    rcases h with h | h | h <;> rw [h]
  rw [hself]
  exact claimStart_of_closed (.inl (by rcases h with h | h | h <;> rw [h] <;> nofun))

/-- Settles O14: the smallest claim's oldest frame is the one `contendOldest` finds; without a frame the gap only opens. -/
theorem quietGapEndContends : Obligations.QuietGapEndContends := by
  refine ⟨fun s pre post f hopen hq hpre hpost => ?contends, fun s => ⟨fun hb => ?busy, fun he hi => ?idle, fun he ho => ?gap⟩⟩
  case contends =>
    have hle : ∀ g ∈ (quietGapEnd s.link).queue, f.claim.toNat ≤ g.claim.toNat := by
      intro g hg
      rw [quietGapEnd_queue, hq, List.mem_append, List.mem_cons] at hg
      rcases hg with hg | rfl | hg
      · exact (hpre g hg).le
      · exact Nat.le_refl _
      · exact hpost g hg
    have hmin := minClaim_of_mem (by simp [quietGapEnd_queue, hq]) hle
    have hsplit := contendOldest_split (post := post) fun g hg => (hpre g hg).ne'
    have hgap := quietGapEnd_of_open hopen
    refine ⟨_, exec_quietGapEnd s, ?_⟩
    rw [claimStart_of_open (by rw [hgap]) (by rw [hgap]) hmin, quietGapEnd_queue, hq, hsplit]
    conv_lhs => rw [hgap]
    rfl
  case busy => rw [exec_quietGapEnd, quietGapEnd_of_busy hb]
  case idle => rw [exec_quietGapEnd, claimStart_of_empty ((quietGapEnd_queue _).trans he), quietGapEnd_of_idle hi]
  case gap =>
    rw [exec_quietGapEnd, claimStart_of_empty ((quietGapEnd_queue _).trans he), quietGapEnd_of_dropped ho]
    rfl

/-! ## Receivers and broken frames (R5, R7) -/

theorem exec_startBitSeen_idle {s : State} (h : s.link.state = .idle) :
    exec .startBitSeen s = .next (s.modLink fun l => { l.dropRx with state := .receiving, gapOpen := false }) := by
  rw [show exec .startBitSeen s = execStartBitSeen s from rfl, execStartBitSeen, h]

theorem exec_frameBroken (a : BrokenAt) (s : State) : exec (.frameBroken a) s = .next (s.modLink (breakFrame a)) := rfl

theorem breakFrame_claim {l : Link} (h : l.state = .idle ∨ l.state = .receiving) :
    breakFrame .claim l = breakToListening l := by
  unfold breakFrame
  rcases h with h | h <;> rw [h]

theorem breakFrame_length {l : Link} (h : l.state = .receiving) : breakFrame .length l = breakToListening l := by
  unfold breakFrame
  rw [h]

theorem breakFrame_later {l : Link} (h : l.state = .receiving) {len : Byte} (hl : len.toNat ≤ 40) :
    breakFrame (.later len) l = if l.rxBroken then l else { l with rxBroken := true, broken := bump l.broken } := by
  unfold breakFrame breakLater
  rw [h]
  exact if_pos hl

theorem exec_lengthAbove40Read_receiving {s : State} (h : s.link.state = .receiving) {len : Byte} (hl : 40 < len.toNat) :
    exec (.lengthAbove40Read len) s =
      .next (s.modLink fun l => { l.dropRx with state := .listening, gapOpen := false }) := by
  rw [show exec (.lengthAbove40Read len) s = execLengthAbove40Read len s from rfl, execLengthAbove40Read, h]
  exact congrArg _ (if_pos hl)

/-- Settles O15: one rule for each place where the characters break. -/
theorem receiverFollowsLine : Obligations.ReceiverFollowsLine := by
  refine ⟨fun s hi => ⟨exec_startBitSeen_idle hi, ?claim⟩, fun s hr => ⟨?length, fun len hb hl => ?first,
      fun len hb hl => ?again,
    fun len hl => exec_lengthAbove40Read_receiving hr hl⟩⟩
  case claim =>
    rw [exec_frameBroken, State.modLink, breakFrame_claim (.inl hi)]
    rfl
  case length =>
    rw [exec_frameBroken, State.modLink, breakFrame_length hr]
    rfl
  case first =>
    rw [exec_frameBroken, State.modLink, breakFrame_later hr hl, if_neg (by simp [hb])]
    rfl
  case again => rw [exec_frameBroken, State.modLink, breakFrame_later hr hl, if_pos hb]

/-! ## Losses (R8, R17) -/

theorem exec_contentionLoss_sending {s : State} (h : s.link.state = .sending) :
    exec .contentionLoss s =
      .next (settleHeld (s.modLink fun l => { l.backToWaiting.dropRx with state := .receiving })) := by
  rw [show exec .contentionLoss s = execContentionLoss s from rfl, execContentionLoss, h]

/-- Settles O16: without a held frame only the contention mark goes; a held one replaces the frame now waiting. -/
theorem contentionLossKeepsFrames : Obligations.ContentionLossKeepsFrames := by
  intro s hs
  refine ⟨fun hh => ?noHeld, fun g p pre post hst hg hq hp hall => ?held⟩
  case noHeld =>
    rw [exec_contentionLoss_sending hs, settleHeld_none (by exact hh)]
    rfl
  case held =>
    have hwait : allWaiting s.link.queue = pre ++ { p with contending := false } :: post := by
      rw [hq, allWaiting_split fun f hf => (hall f hf).2]
    rw [exec_contentionLoss_sending hs, settleHeld_replaces
      (s := s.modLink fun l => { l.backToWaiting.dropRx with state := .receiving })
      (p := { p with contending := false }) hst (.inl nofun) hg hwait hp rfl fun f hf => (hall f hf).1]
    rfl

/-! ## Claims (R6) -/

theorem claimClass_eq (c : Byte) : claimClass c = c.toNat / 64 := by
  have := c.isLt
  rw [claimClass, BitVec.extractLsb'_toNat, Nat.shiftRight_eq_div_pow, Nat.mod_eq_of_lt (by omega)]

theorem claimSub_eq (c : Byte) : claimSub c = c.toNat % 4 := by
  rw [claimSub, BitVec.extractLsb'_toNat, Nat.shiftRight_zero]

theorem claimStation_toNat (c : Byte) : (claimStation c).toNat = c.toNat / 4 % 16 := by
  rw [claimStation, BitVec.extractLsb'_toNat, Nat.shiftRight_eq_div_pow]

/-! ## The relay table -/

section RelayTable

variable {s : State} {pre post : List Relay} {e : Relay}

theorem relayOf_split (hr : s.tablet.relays = pre ++ e :: post) (hid : ∀ r ∈ pre ++ post, r.id ≠ e.id) :
    relayOf e.id s = some e := by
  have none_before : pre.find? (fun r => r.id == e.id) = none :=
    List.find?_eq_none.2 fun r hr => by simpa using hid r (List.mem_append_left post hr)
  rw [relayOf, hr, List.find?_append, none_before, Option.none_or]
  exact List.find?_cons_of_pos (beq_self_eq_true e.id)

theorem removeRelay_split (hr : s.tablet.relays = pre ++ e :: post) (hid : ∀ r ∈ pre ++ post, r.id ≠ e.id) :
    removeRelay e.id s = { s with tablet := { s.tablet with relays := pre ++ post } } := by
  have kept : (s.tablet.relays.filter fun r => r.id != e.id) = pre ++ post := by
    have self : (pre ++ post).filter (fun r => r.id != e.id) = pre ++ post :=
      List.filter_eq_self.2 fun r hr => by simpa using hid r hr
    rw [hr, List.filter_append, List.filter_cons_of_neg (by simp), ← List.filter_append, self]
  rw [removeRelay, kept]

theorem markSent_split (hr : s.tablet.relays = pre ++ e :: post) (hid : ∀ r ∈ pre ++ post, r.id ≠ e.id) :
    markSent e.id s =
      { s with tablet := { s.tablet with relays := pre ++ { e with status := .sent } :: post } } := by
  have others {q : List Relay} (hq : ∀ r ∈ q, r.id ≠ e.id) :
      (q.map fun r => if r.id = e.id then { r with status := .sent } else r) = q :=
    map_eq_self fun r hr => if_neg (hq r hr)
  rw [markSent, hr, List.map_append, List.map_cons, others fun r hr => hid r (List.mem_append_left post hr),
    others fun r hr => hid r (List.mem_append_right pre hr), if_pos rfl]

end RelayTable

/-! ## Spoils (R9, R10, R13) -/

theorem duplicateStation_eq (a : Word) (s : State) : duplicateStation a s =
    if s.link.dupTimer.isSome then s
    else raiseEvent .duplicateStation s.ownByte a { s with link := { s.link with dupTimer := some 1000 } } := by
  unfold duplicateStation
  cases s.link.dupTimer <;> rfl

theorem placeAnswer_link (b : List Byte) (s : State) : (placeAnswer b s).link = s.link := by
  unfold placeAnswer
  split
  · exact placeRecord_link 1 0 b s
  · rfl

/-- Telling the owner of a spoiled frame may queue an answer; the rest of the link is left. -/
theorem tellSpoiledOut_link (o : FrameOwner) (s : State) :
    (tellSpoiledOut o s).link.own = s.link.own ∧ (tellSpoiledOut o s).link.dupTimer = s.link.dupTimer ∧
    (tellSpoiledOut o s).link.held = s.link.held := by
  cases o with
  | cueRequest h => exact ⟨by simp [tellSpoiledOut], by simp [tellSpoiledOut], by simp [tellSpoiledOut]⟩
  | command id =>
    rw [tellSpoiledOut]
    split
    · rw [answerRelay, placeAnswer_link]
      exact ⟨rfl, rfl, rfl⟩
    · exact ⟨rfl, rfl, rfl⟩
  | halt => exact ⟨rfl, rfl, rfl⟩
  | cueWatch k => exact ⟨rfl, rfl, rfl⟩
  | answer => exact ⟨rfl, rfl, rfl⟩
  | notice n => exact ⟨rfl, rfl, rfl⟩
  | publish => exact ⟨rfl, rfl, rfl⟩

theorem spoilContender_none {s : State} (h : s.link.contender = none) : spoilContender s = settleHeld s := by
  unfold spoilContender
  rw [h]

theorem spoilContender_again {s : State} {f : Frame} (h : s.link.contender = some f) (hn : f.spoils < 7) :
    spoilContender s = settleHeld (s.modLink fun l => { l with queue := countSpoil l.queue }) := by
  unfold spoilContender
  rw [h]
  exact if_neg (by omega)

/-- A frame spoiled for the eighth time: removed, LINK_SPOILED, its owner told. -/
def spoilOut (f : Frame) (s : State) : State :=
  tellSpoiledOut f.owner
    (raiseEvent .linkSpoiled (BitVec.ofNat 8 (f.claim.toNat / 64)) (f.claim.setWidth 32) (s.modLink Link.removeContender))

theorem spoilContender_out {s : State} {f : Frame} (h : s.link.contender = some f) (hn : 7 ≤ f.spoils) :
    spoilContender s = settleHeld (spoilOut f s) := by
  unfold spoilContender
  rw [h, spoilOut, ← claimClass_eq]
  exact if_pos (by omega)

theorem spoilOut_link (f : Frame) (s : State) :
    (spoilOut f s).link.own = s.link.own ∧ (spoilOut f s).link.dupTimer = s.link.dupTimer ∧
    (spoilOut f s).link.held = s.link.held := by
  obtain ⟨hown, hdup, hheld⟩ := tellSpoiledOut_link f.owner (raiseEvent .linkSpoiled (BitVec.ofNat 8 (f.claim.toNat / 64))
    (f.claim.setWidth 32) (s.modLink Link.removeContender))
  rw [spoilOut, hown, hdup, hheld]
  simp [Link.removeContender]

/-- The link as a bit clash leaves it before the frame's spoil is counted. -/
def clashLink (l : Link) : Link := { l.dropRx with state := .receiving, spoiled := bump l.spoiled }

/-- The link as a dominant verdict slot leaves it before the frame's spoil is counted. -/
def spoiledSlot (l : Link) : Link := { slotEnd l with spoiled := bump l.spoiled }

theorem exec_bitClash_sending {s : State} (h : s.link.state = .sending) :
    exec .bitClash s = .next (duplicateStation 1 (spoilContender (s.modLink clashLink))) := by
  rw [show exec .bitClash s = execBitClash s from rfl, execBitClash, h]
  rfl

theorem exec_frameSpoiled_verdict {s : State} (h : s.link.state = .verdict) :
    exec .frameSpoiled s = .next (spoilContender (s.modLink spoiledSlot)) := by
  rw [show exec .frameSpoiled s = execFrameSpoiled s from rfl, execFrameSpoiled, h]
  rfl

/-- DUPLICATE_STATION after work that left the own number and the suppression timer. -/
theorem duplicateStation_of_same {a : Word} {s t : State} (hown : t.link.own = s.link.own)
    (hdup : t.link.dupTimer = s.link.dupTimer) : duplicateStation a t =
      if s.link.dupTimer.isSome then t
      else raiseEvent .duplicateStation (s.link.own.setWidth 8) a
        { t with link := { t.link with dupTimer := some 1000 } } := by
  rw [duplicateStation_eq, hdup, State.ownByte, hown]

section SpoiledFrame

variable {s : State} {pre post : List Frame} {f : Frame}

theorem spoilContender_split_again (hq : s.link.queue = pre ++ f :: post) (hf : f.contending = true)
    (hall : ∀ g ∈ pre ++ post, g.contending = false) (hn : f.spoils < 7) (hheld : s.link.held = none) :
    spoilContender s = { s with link := { s.link with
      queue := pre ++ { f with contending := false, spoils := f.spoils + 1 } :: post } } := by
  have hc := contender_of_split hq hf fun g hg => hall g (List.mem_append_left post hg)
  rw [spoilContender_again hc hn, settleHeld_none (by exact hheld), State.modLink, hq, countSpoil_split hf hall]

theorem spoilOut_split (hq : s.link.queue = pre ++ f :: post) (hf : f.contending = true)
    (hpre : ∀ g ∈ pre, g.contending = false) :
    spoilOut f s = tellSpoiledOut f.owner (raiseEvent .linkSpoiled (BitVec.ofNat 8 (f.claim.toNat / 64))
      (f.claim.setWidth 32) { s with link := { s.link with queue := pre ++ post } }) := by
  rw [spoilOut, State.modLink, removeContender_of_split hq hf hpre]

theorem spoilContender_split_out (hq : s.link.queue = pre ++ f :: post) (hf : f.contending = true)
    (hall : ∀ g ∈ pre ++ post, g.contending = false) (hn : 7 ≤ f.spoils) (hheld : s.link.held = none) :
    spoilContender s = tellSpoiledOut f.owner (raiseEvent .linkSpoiled (BitVec.ofNat 8 (f.claim.toNat / 64))
      (f.claim.setWidth 32) { s with link := { s.link with queue := pre ++ post } }) := by
  have hpre := fun g hg => hall g (List.mem_append_left post hg)
  rw [spoilContender_out (contender_of_split hq hf hpre) hn, settleHeld_none ((spoilOut_link f s).2.2.trans hheld),
    spoilOut_split hq hf hpre]

/-- A spoiled PUBLISH frame gives its place to the held one (R17). -/
theorem spoilContender_replaced {g : Frame} (hq : s.link.queue = pre ++ f :: post) (hf : f.contending = true)
    (hp : f.isPublish = true) (hall : ∀ x ∈ pre ++ post, x.isPublish = false ∧ x.contending = false)
    (hn : f.spoils < 7) (hst : s.standalone = false) (hidle : s.link.state ≠ .idle ∨ s.link.gapOpen = false)
    (hheld : s.link.held = some g) :
    spoilContender s = { s with link := { s.link with
      held := none, queue := pre ++ newFrame s.link.own .publish g.payload :: post } } := by
  have hc := contender_of_split hq hf fun x hx => (hall x (List.mem_append_left post hx)).2
  have hcount := countSpoil_split hf fun x hx => (hall x hx).2
  rw [← hq] at hcount
  rw [spoilContender_again hc hn, settleHeld_replaces
    (s := s.modLink fun l => { l with queue := countSpoil l.queue }) hst hidle hheld hcount hp rfl
    fun x hx => (hall x hx).1]
  rfl

/-- A PUBLISH frame spoiled for the eighth time leaves; the held one is then offered anew (R17). -/
theorem spoilContender_offered {g : Frame} (hq : s.link.queue = pre ++ f :: post) (hf : f.contending = true)
    (hp : f.isPublish = true) (hpre : ∀ x ∈ pre, x.contending = false) (hn : 7 ≤ f.spoils)
    (hheld : s.link.held = some g) :
    spoilContender s =
      let u := raiseEvent .linkSpoiled (BitVec.ofNat 8 (f.claim.toNat / 64)) (f.claim.setWidth 32)
        { s with link := { s.link with queue := pre ++ post } }
      (offer .publish g.payload { u with link := { u.link with held := none } }).1 := by
  have howner : f.owner = .publish := by simpa [Frame.isPublish] using hp
  rw [spoilContender_out (contender_of_split hq hf hpre) hn, settleHeld_some ((spoilOut_link f s).2.2.trans hheld),
    spoilOut_split hq hf hpre, howner]
  rfl

end SpoiledFrame

/-- Settles O17: a clash and a dominant slot are the same spoil after a different change of the link. -/
theorem spoiledFramesWaitOrLeave : Obligations.SpoiledFramesWaitOrLeave := by
  refine ⟨fun s pre post f hs hh hq hf hall hn => ?clashAgain, fun s pre post f hs hh hq hf hall hn => ?clashOut,
    fun s pre post f hs hh hq hf hall => ⟨fun hn => ?slotAgain, fun hn => ?slotOut⟩,
    fun s pre post f g hst hh hq hp hf hall =>
      ⟨fun hs hn => ?clashReplaced, fun hs hn => ?clashOffered, fun hs hn => ?slotReplaced, fun hs hn => ?slotOffered⟩,
    fun s hs hh hall => ?receiver, fun s => ⟨rfl, rfl, fun _ => rfl, fun _ => rfl, rfl, fun _ => rfl,
      fun pre post e hr hid => ?relay⟩⟩
  case clashAgain =>
    rw [exec_bitClash_sending hs, spoilContender_split_again (s := s.modLink clashLink) hq hf hall hn hh]
    exact congrArg _ (duplicateStation_of_same rfl rfl)
  case clashOut =>
    rw [exec_bitClash_sending hs, spoilContender_split_out (s := s.modLink clashLink) hq hf hall hn hh]
    obtain ⟨hown, hdup, -⟩ := tellSpoiledOut_link f.owner (raiseEvent .linkSpoiled (BitVec.ofNat 8 (f.claim.toNat / 64))
      (f.claim.setWidth 32) { s with link := { s.link with
        state := .receiving, rxBroken := false, driving := false, rxHeld := none,
        spoiled := min 65535 (s.link.spoiled + 1), queue := pre ++ post } })
    exact congrArg _ (duplicateStation_of_same (hown.trans (by simp)) (hdup.trans (by simp)))
  case slotAgain =>
    rw [exec_frameSpoiled_verdict hs, spoilContender_split_again (s := s.modLink spoiledSlot) hq hf hall hn hh]
    rfl
  case slotOut =>
    rw [exec_frameSpoiled_verdict hs, spoilContender_split_out (s := s.modLink spoiledSlot) hq hf hall hn hh]
    rfl
  case clashReplaced =>
    rw [exec_bitClash_sending hs, spoilContender_replaced (s := s.modLink clashLink) hq hf hp hall hn hst (.inl nofun) hh]
    exact congrArg _ (duplicateStation_of_same rfl rfl)
  case clashOffered =>
    rw [exec_bitClash_sending hs, spoilContender_offered (s := s.modLink clashLink) hq hf hp
      (fun x hx => (hall x (List.mem_append_left post hx)).2) hn hh]
    exact congrArg _ (duplicateStation_of_same (by simp; rfl) (by simp; rfl))
  case slotReplaced =>
    rw [exec_frameSpoiled_verdict hs, spoilContender_replaced (s := s.modLink spoiledSlot) hq hf hp hall hn hst (.inr rfl) hh]
    rfl
  case slotOffered =>
    rw [exec_frameSpoiled_verdict hs, spoilContender_offered (s := s.modLink spoiledSlot) hq hf hp
      (fun x hx => (hall x (List.mem_append_left post hx)).2) hn hh]
    rfl
  case receiver =>
    rw [exec_frameSpoiled_verdict hs, spoilContender_none (s := s.modLink spoiledSlot) (contender_of_waiting hall),
      settleHeld_none (by exact hh)]
    rfl
  case relay =>
    rw [tellSpoiledOut, relayOf_split hr hid]
    exact congrArg (answerRelay e .linkSpoiled []) (removeRelay_split hr hid)

/-! ## The stuck line and the timers (R10, R15, R20) -/

theorem exec_lineStuck_offline {s : State} (h : s.link.state = .offline) : exec .lineStuck s = .next s := by
  rw [show exec .lineStuck s = execLineStuck s from rfl, execLineStuck, h]

theorem exec_lineStuck_online {s : State} (h : s.link.state ≠ .offline) :
    exec .lineStuck s = .next (raiseEvent .lineStuck 0 0
      (settleHeld (s.modLink fun l => { l.backToWaiting.dropRx with state := .stuck, gapOpen := false }))) := by
  rw [show exec .lineStuck s = execLineStuck s from rfl, execLineStuck]
  split
  · contradiction
  · rfl

theorem exec_stationSilenceExpiry (n : BitVec 4) (s : State) : exec (.stationSilenceExpiry n) s =
    .next (if ranOut (s.link.present n) then
      raiseEvent .stationLost (n.setWidth 8) 1000 (s.modLink fun l => l.setRoster n none) else s) := rfl

theorem exec_duplicateSuppressionExpiry (s : State) : exec .duplicateSuppressionExpiry s =
    .next (if ranOut s.link.dupTimer then s.modLink fun l => { l with dupTimer := none } else s) := rfl

/-- Settles O22: the stuck line by state and held frame, then each timer run out or not. -/
theorem stuckLineAndTimers : Obligations.StuckLineAndTimers := by
  refine ⟨fun s => ⟨exec_lineStuck_offline, fun hs hh => ?stuck, fun g p pre post hs hst hg hq hp hall => ?held⟩,
    fun s n => ⟨fun h => ?silent, fun h => ?heard, fun h => ?dupOut, fun h => ?dupRuns⟩⟩
  case stuck =>
    rw [exec_lineStuck_online hs, settleHeld_none (by exact hh)]
    rfl
  case held =>
    have hwait : allWaiting s.link.queue = pre ++ { p with contending := false } :: post := by
      rw [hq, allWaiting_split fun f hf => (hall f hf).2]
    rw [exec_lineStuck_online hs, settleHeld_replaces
      (s := s.modLink fun l => { l.backToWaiting.dropRx with state := .stuck, gapOpen := false })
      (p := { p with contending := false }) hst (.inl nofun) hg hwait hp rfl fun f hf => (hall f hf).1]
    rfl
  case silent =>
    rw [exec_stationSilenceExpiry, if_pos ((ranOut_eq_true _).2 h)]
    rfl
  case heard => rw [exec_stationSilenceExpiry, if_neg fun hr => h ((ranOut_eq_true _).1 hr)]
  case dupOut =>
    rw [exec_duplicateSuppressionExpiry, if_pos ((ranOut_eq_true _).2 h)]
    rfl
  case dupRuns => rw [exec_duplicateSuppressionExpiry, if_neg fun hr => h ((ranOut_eq_true _).1 hr)]

/-! ## Standalone stations (R22) -/

theorem exec_offline {c : Instr} {s : State} (h : s.link.state = .offline)
    (hc : c ∈ [Instr.quietGapEnd, .contentionLoss, .bitClash, .frameDelivered, .frameSpoiled, .lineStuck, .startBitSeen]) :
    exec c s = .next s := by
  simp only [List.mem_cons, List.not_mem_nil, or_false] at hc
  rcases hc with rfl | rfl | rfl | rfl | rfl | rfl | rfl
  · rw [exec_quietGapEnd, quietGapEnd_of_busy (.inl h)]
  · rw [show exec .contentionLoss s = execContentionLoss s from rfl, execContentionLoss, h]
  · rw [show exec .bitClash s = execBitClash s from rfl, execBitClash, h]
  · rw [show exec .frameDelivered s = execFrameDelivered s from rfl, execFrameDelivered, h]
  · rw [show exec .frameSpoiled s = execFrameSpoiled s from rfl, execFrameSpoiled, h]
  · exact exec_lineStuck_offline h
  · rw [show exec .startBitSeen s = execStartBitSeen s from rfl, execStartBitSeen, h]

theorem breakFrame_offline {l : Link} (h : l.state = .offline) (a : BrokenAt) : breakFrame a l = l := by
  unfold breakFrame
  rw [h]

theorem verdictStart_offline {l : Link} (h : l.state = .offline) (rx : RxFrame) : verdictStart rx l = l := by
  unfold verdictStart
  rw [h]

theorem exec_verdict (rx : RxFrame) (s : State) : exec (.verdict rx) s = .next (s.modLink (verdictStart rx)) := rfl

/-- Settles O23: every event of the line asks for a state that OFFLINE is not. -/
theorem standaloneStaysOffline : Obligations.StandaloneStaysOffline := by
  intro s hown hs
  refine ⟨fun c hc => exec_offline hs hc, fun a => ?broken, fun rx => ?verdict, fun len => ?length, fun o p => ?offer⟩
  case broken => rw [exec_frameBroken, State.modLink, breakFrame_offline hs]
  case verdict => rw [exec_verdict, State.modLink, verdictStart_offline hs]
  case length =>
    rw [show exec (.lengthAbove40Read len) s = execLengthAbove40Read len s from rfl, execLengthAbove40Read, hs]
  case offer => exact offer_standalone (by simpa [State.standalone] using hown)

end Sys2Proof.Machine
end

section
/-! PROOFS. Request bodies: what the decoder makes of the bytes the encoder lays out (R172, R174, R176). -/

namespace Sys2Proof.Machine

/-! ## Fields -/

@[simp] theorem half_extract (x : Half) : half (x.extractLsb' 8 8) (x.extractLsb' 0 8) = x := by
  unfold half
  rw [BitVec.extractLsb'_append_extractLsb'_eq_extractLsb' (by decide : 8 = 0 + 8)]
  exact BitVec.extractLsb'_eq_self

@[simp] theorem word_extract (x : Word) :
    word (x.extractLsb' 24 8) (x.extractLsb' 16 8) (x.extractLsb' 8 8) (x.extractLsb' 0 8) = x := by
  unfold word
  rw [BitVec.extractLsb'_append_extractLsb'_eq_extractLsb' (by decide : 24 = 16 + 8),
    BitVec.extractLsb'_append_extractLsb'_eq_extractLsb' (by decide : 16 = 8 + 8),
    BitVec.extractLsb'_append_extractLsb'_eq_extractLsb' (by decide : 8 = 0 + 8)]
  exact BitVec.extractLsb'_eq_self

@[simp] theorem keepOf_keepByte (k : Bool) : keepOf (keepByte k) = k := by cases k <;> rfl

theorem startOf_startByte_parts :
    ∀ (f : BitVec 2) (k : Bool) (c : BitVec 5), startOf (startByte ⟨f, k, c⟩) = ⟨f, k, c⟩ := by decide

@[simp] theorem startOf_startByte (st : RawStart) : startOf (startByte st) = st :=
  startOf_startByte_parts st.form st.keep st.cue

theorem notesOf_noteBytes (n : RawNote) (bs : List Byte) : notesOf (noteBytes n ++ bs) = (notesOf bs).map (n :: ·) := by
  show (notesOf bs).map (RawNote.mk (half _ _) (half _ _) _ _ _ :: ·) = _
  rw [half_extract, half_extract]

@[simp] theorem notesOf_flatMap (notes : List RawNote) : notesOf (notes.flatMap noteBytes) = some notes := by
  induction notes with
  | nil => rfl
  | cons n ns ih => rw [List.flatMap_cons, notesOf_noteBytes, ih, Option.map_some]

/-! ## Requests -/

theorem decodeSetPublish_bytes (period : Half) {items : List Byte} (h : items.length ≤ 54) :
    decodeSetPublish (halfBytes period ++ [BitVec.ofNat 8 items.length] ++ items) = some (.setPublish period items) := by
  have count : items.length = (BitVec.ofNat 8 items.length).toNat := by
    rw [BitVec.toNat_ofNat]
    omega
  show (if items.length = (BitVec.ofNat 8 items.length).toNat then some (Request.setPublish (half _ _) items) else none) = _
  rw [if_pos count, half_extract]

/-- Settles O55: two requests carry a list; every other body is a fixed row of fields. -/
theorem requestsRoundTrip : Obligations.RequestsRoundTrip := by
  intro r hr
  cases r with
  | setPublish period items => exact decodeSetPublish_bytes period (of_decide_eq_true hr)
  | queueNotes start notes =>
    show (notesOf (notes.flatMap noteBytes)).map (Request.queueNotes (startOf (startByte start))) = _
    rw [notesOf_flatMap, startOf_startByte, Option.map_some]
  | setMotor ch mode value cue keep =>
    show some (Request.setMotor ch mode (word _ _ _ _) cue (keepOf (keepByte keep))) = _
    rw [word_extract, keepOf_keepByte]
  | setFollow ch f cue keep =>
    show some (Request.setFollow ch ⟨_, _, _, half _ _, half _ _, word _ _ _ _⟩ cue (keepOf (keepByte keep))) = _
    rw [half_extract, half_extract, word_extract, keepOf_keepByte]
  | configMotor ch kind p =>
    show some (Request.configMotor ch kind
      ⟨half _ _, half _ _, _, half _ _, half _ _, half _ _, half _ _, half _ _, _⟩) = _
    simp only [half_extract]
  | resetPosition ch value =>
    show some (Request.resetPosition ch (word _ _ _ _)) = _
    rw [word_extract]
  | setListen index source item limit =>
    show some (Request.setListen index source item (half _ _)) = _
    rw [half_extract]
  | stageSnapshot cue keep =>
    show some (Request.stageSnapshot cue (keepOf (keepByte keep))) = _
    rw [keepOf_keepByte]
  | stageRearm cue keep =>
    show some (Request.stageRearm cue (keepOf (keepByte keep))) = _
    rw [keepOf_keepByte]
  | setWatch index w =>
    show some (Request.setWatch index ⟨_, _, _, _, word _ _ _ _, word _ _ _ _, half _ _, _, _, _⟩) = _
    rw [word_extract, word_extract, half_extract]
  | startSound cue keep =>
    show some (Request.startSound cue (keepOf (keepByte keep))) = _
    rw [keepOf_keepByte]
  | stopSound arg cue keep =>
    show some (Request.stopSound arg cue (keepOf (keepByte keep))) = _
    rw [keepOf_keepByte]
  | configFault source reaction grace style form mask =>
    show some (Request.configFault source reaction (half _ _) style form mask) = _
    rw [half_extract]
  | setKeepalive period =>
    show some (Request.setKeepalive (half _ _)) = _
    rw [half_extract]
  | setEventMask mask =>
    show some (Request.setEventMask (word _ _ _ _)) = _
    rw [word_extract]
  | _ => rfl

/-- A request's row does what the request does (R159). -/
theorem exec_request (h : ReqCtx) (r : Request) (s : State) : exec (r.instr h) s = .next (runRequest h r s) := by
  cases r <;> rfl

end Sys2Proof.Machine
end

section
/-! PROOFS. The characters of a frame and the verdict slot (R2, R5, R6, R11). -/

namespace Sys2Proof.Machine

/-! ## The judgement of a frame (R11) -/

theorem badClaim_eq_true (c : Byte) : badClaim c = true ↔
    c.toNat / 4 % 16 = 0 ∨ c.toNat / 4 % 16 = 15 ∨ (c.toNat / 64 = 2 ∧ c.toNat % 4 = 3) ∨
      (c.toNat / 64 ≠ 2 ∧ c.toNat % 4 ≠ 0) := by
  have station (n : BitVec 4) : claimStation c = n ↔ c.toNat / 4 % 16 = n.toNat := by
    rw [← claimStation_toNat, BitVec.toNat_inj]
  simp only [badClaim, Bool.or_eq_true, beq_iff_eq, station, claimClass_eq, claimSub_eq, or_assoc]
  refine or_congr Iff.rfl (or_congr Iff.rfl ?_)
  split
  · rename_i h; simp [h]
  · rename_i h; simp [h]

theorem faulty_eq_decide (rx : RxFrame) (broken : Bool) : faulty rx broken =
    decide (crc8 (rx.length :: rx.payload) ≠ rx.check ∨ rx.stopLow = true ∨ rx.claim.toNat / 4 % 16 = 0 ∨
      rx.claim.toNat / 4 % 16 = 15 ∨ (rx.claim.toNat / 64 = 2 ∧ rx.claim.toNat % 4 = 3) ∨
      (rx.claim.toNat / 64 ≠ 2 ∧ rx.claim.toNat % 4 ≠ 0) ∨ broken = true) := by
  rw [Bool.eq_iff_iff, decide_eq_true_eq, faulty]
  simp only [Bool.or_eq_true, bne_iff_ne, badClaim_eq_true, or_assoc, ne_eq]

theorem verdictStart_sending {l : Link} (h : l.state = .sending) (rx : RxFrame) :
    verdictStart rx l = { l.dropRx with state := .verdict } := by
  unfold verdictStart
  rw [h]

theorem verdictStart_receiving {l : Link} (h : l.state = .receiving) (rx : RxFrame) :
    verdictStart rx l = { l with
      state := .verdict, rxBroken := false, driving := faulty rx l.rxBroken,
      rxHeld := if faulty rx l.rxBroken then none else some { claim := rx.claim, payload := rx.payload } } := by
  unfold verdictStart
  rw [h]
  cases faulty rx l.rxBroken <;> rfl

/-- A claim that a station 1 to 14 forms is none a receiver refuses. -/
theorem badClaim_claimOf : ∀ own : BitVec 4, own ≠ 0 → own ≠ 15 →
    ∀ bits ∈ [((0 : BitVec 2), (0 : BitVec 2)), (1, 0), (2, 0), (2, 1), (2, 2), (3, 0)],
      badClaim (claimOf bits.1 own bits.2) = false := by decide

theorem classBits_mem (o : FrameOwner) :
    o.classBits ∈ [((0 : BitVec 2), (0 : BitVec 2)), (1, 0), (2, 0), (2, 1), (2, 2), (3, 0)] := by
  cases o <;> simp [FrameOwner.classBits]

theorem faulty_of_sent {own : BitVec 4} (h0 : own ≠ 0) (h15 : own ≠ 15) (o : FrameOwner) (len : Byte) (p : List Byte) :
    faulty { claim := (newFrame own o p).claim, length := len, payload := p, check := crc8 (len :: p), stopLow := false }
      false = false := by
  have claim_ok : badClaim (newFrame own o p).claim = false := badClaim_claimOf own h0 h15 _ (classBits_mem o)
  simp [faulty, claim_ok]

/-! ## The characters of a frame (R2, R6) -/

theorem levels_of_sent {c : LineChar} (h : c.stopLow = false) :
    c.levels.length = 11 ∧ c.levels.head? = some false ∧ c.levels.getLast? = some true ∧
      c.levels[9]? = some c.mark ∧ ∀ i : Fin 8, c.levels[i.val + 1]? = some (c.value.getLsbD (7 - i.val)) := by
  obtain ⟨value, mark, stopLow⟩ := c
  cases h
  refine ⟨rfl, rfl, rfl, rfl, fun i => ?_⟩
  fin_cases i <;> rfl

theorem stopLow_of_mem_chars {f : Frame} {c : LineChar} (h : c ∈ f.chars) : c.stopLow = false := by
  rw [Frame.chars, List.mem_cons, List.mem_map] at h
  rcases h with rfl | ⟨v, -, rfl⟩ <;> rfl

/-- After the claim no character of a sent frame has its mark bit set: nothing breaks it (R5). -/
theorem brokenAt_chars (f : Frame) : brokenAt f.chars = none := by
  have unmarked (l : List Byte) : ((l.map (sentChar false)).any fun x => x.mark) = false := by
    simp [sentChar]
  show (if (([f.payload, [f.checkByte]].flatten.map (sentChar false)).any fun x => x.mark) = true then _ else none) = none
  rw [unmarked]
  rfl

theorem readFrame_chars {f : Frame} (h : f.payload.length ≤ 40) : readFrame f.chars =
    some { claim := f.claim, length := f.lengthByte, payload := f.payload, check := f.checkByte, stopLow := false } := by
  have len : f.lengthByte.toNat = f.payload.length := by
    rw [Frame.lengthByte, toByte, BitVec.toNat_ofNat]
    omega
  have values : ((f.payload ++ [f.checkByte]).map (sentChar false)).map (fun x => x.value) = f.payload ++ [f.checkByte] := by
    rw [List.map_map]
    exact List.map_id _
  have no_stop : (f.chars.any fun x => x.stopLow) = false := by
    rw [List.any_eq_false]
    intro c hc
    simp [stopLow_of_mem_chars hc]
  rw [Frame.chars] at no_stop ⊢
  simp only [List.cons_append, List.nil_append, List.map_cons] at no_stop ⊢
  rw [readFrame, values, List.reverse_append]
  simp only [List.reverse_cons, List.reverse_nil, List.nil_append, List.cons_append, List.reverse_reverse,
    List.length_reverse, no_stop]
  exact if_pos ⟨len.symm, len.trans_le h⟩

theorem sends_of_not_sending {l : Link} (h : l.state ≠ .sending) : l.sends = [] := by
  unfold Link.sends
  split
  · contradiction
  · rfl

theorem sends_of_contender {l : Link} {f : Frame} (h : l.state = .sending) (hf : l.contender = some f) :
    l.sends = f.chars := by
  unfold Link.sends
  rw [h, hf]

/-- Settles O18: a sender's characters, read back and judged. -/
theorem verdictJudgesFrame : Obligations.VerdictJudgesFrame := by
  refine ⟨fun s rx => ⟨fun hr => ?receiver, fun hs => ?sender⟩,
    fun f hf => ⟨?chars, fun c hc => levels_of_sent (stopLow_of_mem_chars hc), brokenAt_chars f, readFrame_chars hf⟩,
    fun own owner payload rx s h0 h15 hp hread hr hb => ?sound,
    fun l => ⟨sends_of_not_sending, fun pre post f hs hq hf hpre => sends_of_contender hs (contender_of_split hq hf hpre)⟩⟩
  case receiver =>
    rw [exec_verdict, State.modLink, verdictStart_receiving hr, faulty_eq_decide]
  case sender =>
    rw [exec_verdict, State.modLink, verdictStart_sending hs]
    rfl
  case chars =>
    rw [Frame.chars, List.map_append, List.map_append, List.append_assoc]
    rfl
  case sound =>
    rw [readFrame_chars (f := newFrame own owner payload) hp] at hread
    cases hread
    rw [exec_verdict, State.modLink, verdictStart_receiving hr, hb]
    exact congrArg (fun b : Bool => Host.Outcome.next (σ := State) { s with link := { s.link with
      state := .verdict, rxBroken := false, driving := b,
      rxHeld := if b then none else some { claim := (newFrame own owner payload).claim, payload := payload } } })
      (faulty_of_sent h0 h15 owner (toByte payload.length) payload)

end Sys2Proof.Machine
end

section
/-! PROOFS. Deliveries: what a receiver and a sender do at the end of a sound verdict slot (R10, R12, R20, R151, R160). -/

namespace Sys2Proof.Machine

/-! ## The held PUBLISH place during a delivery (R17) -/

theorem claimStart_held (l : Link) : (claimStart l).held = l.held := by rw [claimStart_shape]

theorem offer_link_held {o : FrameOwner} (p : List Byte) (s : State) (ho : o ≠ .publish) :
    (offer o p s).1.link.held = s.link.held := by
  obtain ⟨_, _, _, _, he, hheld⟩ := offer_shape o p s
  rw [he]
  exact hheld ho

theorem Act.held {s t : State} (h : Act s t) : t.link.held = s.link.held := by
  cases h
  case offer o p ho => exact offer_link_held p s ho
  case claim => exact claimStart_held _
  case line l hl => exact hl.held
  case halt => rw [haltStation_eq]
  case record => rw [placeRecord_link]
  case tick => unfold Machine.tick; split <;> rfl
  all_goals rfl

/-- Work that needs no licence leaves the held PUBLISH place. -/
theorem Acts.held {s t : State} (h : Acts (fun _ => False) s t) : t.link.held = s.link.held :=
  h.induct (P := fun u => u.link.held = s.link.held) (fun a hu => a.held.trans hu) (fun hk => hk.elim) rfl

/-! ## A frame delivered at a receiver -/

/-- The link once a delivered frame is counted. -/
def slotDelivered (l : Link) : Link := { slotEnd l with delivered := bump l.delivered }

/-- The sender's part of a delivery: its roster entry, or the second station of the own number (R10, R20). -/
def heardFrom (n : BitVec 4) (s : State) : State :=
  if n = s.link.own then duplicateStation 2 s else stationHeard n s

theorem exec_frameDelivered_received {s : State} {f : HeldFrame} (hs : s.link.state = .verdict)
    (hall : ∀ g ∈ s.link.queue, g.contending = false) (hf : s.link.rxHeld = some f) :
    exec .frameDelivered s = .next (handOver f (heardFrom (claimStation f.claim) (s.modLink slotDelivered))) := by
  rw [show exec .frameDelivered s = execFrameDelivered s from rfl, execFrameDelivered, hs, contender_of_waiting hall, hf]
  rfl

theorem heardFrom_own {s : State} : heardFrom s.link.own s = duplicateStation 2 s := if_pos rfl

theorem heardFrom_other {n : BitVec 4} {s : State} (h : n ≠ s.link.own) : heardFrom n s = stationHeard n s := if_neg h

theorem stationHeard_eq (n : BitVec 4) (s : State) : stationHeard n s =
    if (s.link.present n).isSome then s.modLink fun l => l.setRoster n (some 1000)
    else raiseEvent .stationFound (n.setWidth 8) 0 (s.modLink fun l => l.setRoster n (some 1000)) := by
  unfold stationHeard
  cases s.link.present n <;> rfl

theorem stationHeard_present {n : BitVec 4} {s : State} (h : (s.link.present n).isSome = true) :
    stationHeard n s = s.modLink fun l => l.setRoster n (some 1000) := by
  rw [stationHeard_eq, if_pos h]

theorem heardFrom_eq (n : BitVec 4) (s : State) : heardFrom n s =
    if n = s.link.own then
      if s.link.dupTimer.isSome then s
      else raiseEvent .duplicateStation s.ownByte 2 { s with link := { s.link with dupTimer := some 1000 } }
    else if (s.link.present n).isSome then s.modLink fun l => l.setRoster n (some 1000)
    else raiseEvent .stationFound (n.setWidth 8) 0 (s.modLink fun l => l.setRoster n (some 1000)) := by
  rw [heardFrom, duplicateStation_eq, stationHeard_eq]

/-- Hearing a station touches the link and the tablet port's records. -/
theorem heardFrom_shape (n : BitVec 4) (s : State) : ∃ l r c, heardFrom n s =
    { s with link := l, tablet := { s.tablet with reports := r, lost := c } } ∧
      l.own = s.link.own ∧ l.delivered = s.link.delivered := by
  rw [heardFrom_eq]
  split
  · split
    · exact ⟨_, _, _, rfl, rfl, rfl⟩
    · obtain ⟨_, _, _, _, _, he⟩ := raiseEvent_shape .duplicateStation s.ownByte 2
        { s with link := { s.link with dupTimer := some 1000 } }
      exact ⟨_, _, _, he, rfl, rfl⟩
  · split
    · exact ⟨_, _, _, rfl, rfl, rfl⟩
    · obtain ⟨_, _, _, _, _, he⟩ := raiseEvent_shape .stationFound (n.setWidth 8) 0
        (s.modLink fun l => l.setRoster n (some 1000))
      exact ⟨_, _, _, he, rfl, rfl⟩

@[simp] theorem heardFrom_cue (n : BitVec 4) (s : State) : (heardFrom n s).cue = s.cue := by
  obtain ⟨_, _, _, he, _, _⟩ := heardFrom_shape n s
  rw [he]

@[simp] theorem heardFrom_ownByte (n : BitVec 4) (s : State) : (heardFrom n s).ownByte = s.ownByte := by
  obtain ⟨_, _, _, he, hown, _⟩ := heardFrom_shape n s
  rw [he, State.ownByte, State.ownByte, hown]

/-! ## The block that owns the class (R12) -/

section HandOver

variable {f : HeldFrame}

theorem handOver_halt (h : f.claim.toNat / 64 = 0) (s : State) :
    handOver f s = takeHaltFrame (claimStation f.claim) f.payload s := by
  unfold handOver
  rw [claimClass_eq, h]
  rfl

theorem handOver_cue (h : f.claim.toNat / 64 = 1) (s : State) : handOver f s = takeCueFrame f.payload s := by
  unfold handOver
  rw [claimClass_eq, h]
  rfl

theorem handOver_directed {sub : Nat} (h : f.claim.toNat / 64 = 2) (hsub : f.claim.toNat % 4 = sub) (s : State) :
    handOver f s = takeDirected sub (claimStation f.claim) f.payload s := by
  unfold handOver
  rw [claimClass_eq, h, claimSub_eq, hsub]
  rfl

theorem handOver_publish (h : f.claim.toNat / 64 = 3) (s : State) :
    handOver f s = takePublish (claimStation f.claim) f.payload s := by
  unfold handOver
  rw [claimClass_eq, h]
  rfl

end HandOver

theorem takeDirected_command (n : BitVec 4) (t d : Byte) (rest : List Byte) (s : State) :
    takeDirected 0 n (t :: d :: rest) s = if d = s.ownByte then takeCommand n (t :: d :: rest) s else s := rfl

theorem takeDirected_answer (n : BitVec 4) (a : Byte) (rest : List Byte) (s : State) :
    takeDirected 1 n (a :: rest) s = if a = s.ownByte then takeAnswer n (a :: rest) s else s := rfl

theorem takeDirected_notice (n : BitVec 4) (a : Byte) (rest : List Byte) (s : State) :
    takeDirected 2 n (a :: rest) s = if a = s.ownByte then takeNotice n (a :: rest) s else s := rfl

/-- A COMMAND frame for another station is handed over for nothing (R12). -/
theorem handOver_elsewhere {f : HeldFrame} {tag d : Byte} {rest : List Byte} {s : State} (hclass : f.claim.toNat / 64 = 2)
    (hsub : f.claim.toNat % 4 = 0) (hp : f.payload = tag :: d :: rest) (hd : d ≠ s.ownByte) : handOver f s = s := by
  rw [handOver_directed hclass hsub, hp, takeDirected_command, if_neg hd]

theorem maskMeets_eq_true (mask m : Byte) : maskMeets mask m = true ↔ mask = 0 ∨ mask &&& m ≠ 0 := by
  simp [maskMeets]

/-- A cue number and a mask that a CUE frame is taken with (R40, R50). -/
abbrev cueTaken (mask cue membership : Byte) : Prop :=
  1 ≤ cue.toNat ∧ cue.toNat ≤ 15 ∧ (mask = 0 ∨ mask &&& membership ≠ 0)

theorem takeCueFrame_taken {mask cue : Byte} {s : State} (h : cueTaken mask cue s.cue.membership) :
    takeCueFrame [mask, cue] s = takeCue cue.toNat s := by
  obtain ⟨h1, h15, hm⟩ := h
  exact if_pos ⟨⟨h1, h15⟩, (maskMeets_eq_true _ _).2 hm⟩

theorem takeCueFrame_passed {mask cue : Byte} {s : State} (h : ¬ cueTaken mask cue s.cue.membership) :
    takeCueFrame [mask, cue] s = s :=
  if_neg fun ⟨⟨h1, h15⟩, hm⟩ => h ⟨h1, h15, (maskMeets_eq_true _ _).1 hm⟩

theorem takeCueFrame_eq (mask cue : Byte) (s : State) : takeCueFrame [mask, cue] s =
    if 1 ≤ cue.toNat ∧ cue.toNat ≤ 15 ∧ (mask = 0 ∨ mask &&& s.cue.membership ≠ 0) then takeCue cue.toNat s else s := by
  by_cases h : cueTaken mask cue s.cue.membership
  · exact (takeCueFrame_taken h).trans (if_pos h).symm
  · exact (takeCueFrame_passed h).trans (if_neg h).symm

theorem takeCueFrame_ill {p : List Byte} (h : p.length ≠ 2) (s : State) : takeCueFrame p s = s := by
  unfold takeCueFrame
  split
  · exact absurd rfl h
  · rfl

/-! ## A frame delivered at its sender -/

theorem tellDelivered_held (f : Frame) (s : State) : (tellDelivered f s).link.held = s.link.held :=
  Acts.held (tellDelivered_acts f s)

theorem exec_frameDelivered_sent {s : State} {pre post : List Frame} {f : Frame} (hs : s.link.state = .verdict)
    (hheld : s.link.held = none) (hq : s.link.queue = pre ++ f :: post) (hf : f.contending = true)
    (hpre : ∀ g ∈ pre, g.contending = false) : exec .frameDelivered s =
      .next (tellDelivered f { s with link := { slotDelivered s.link with queue := pre ++ post } }) := by
  let t : State := { s with link := { slotDelivered s.link with queue := pre ++ post } }
  have unheld : (tellDelivered f t).link.held = none := (tellDelivered_held f t).trans hheld
  have gone : ((slotEnd s.link).removeContender) = { slotEnd s.link with queue := pre ++ post } :=
    removeContender_of_split (l := slotEnd s.link) hq hf hpre
  rw [show exec .frameDelivered s = execFrameDelivered s from rfl, execFrameDelivered, hs,
    contender_of_split hq hf hpre]
  show Host.Outcome.next (settleHeld (tellDelivered f
    { s with link := { (slotEnd s.link).removeContender with delivered := bump (slotEnd s.link).delivered } })) = _
  rw [gone]
  exact congrArg _ (settleHeld_none unheld)

/-- Settles O19: what a receiver does before and after the hand-over, and what a sender's owner does. -/
theorem deliveriesCounted : Obligations.DeliveriesCounted := by
  refine ⟨fun s f tag addressee rest hs hall hf hp hne hclass hsub => ⟨fun hst => ?other, fun hst => ?own⟩,
    fun s f hs hall hf hclass => ⟨fun mask cue hp => ⟨fun h1 h15 hm => ?taken, fun hno => ?passed⟩, fun hlen => ?ill⟩,
    fun s pre post f mask cue hs hh hq hf hpre hp => ⟨fun h ho => ?request, fun k ho => ?watch⟩,
    fun s pre post f hs hh hq hf hpre ho => ?halt, fun s pre post f ra rb e hs hh hq hf hpre ho hr hid => ?command⟩
  case other =>
    rw [exec_frameDelivered_received hs hall hf, handOver_elsewhere hclass hsub hp (by rw [heardFrom_ownByte]; exact hne),
      heardFrom_eq]
    exact congrArg _ (if_neg hst)
  case own =>
    rw [exec_frameDelivered_received hs hall hf, handOver_elsewhere hclass hsub hp (by rw [heardFrom_ownByte]; exact hne),
      heardFrom_eq]
    exact congrArg _ (if_pos hst)
  case taken =>
    have taken : cueTaken mask cue (heardFrom (claimStation f.claim) (s.modLink slotDelivered)).cue.membership := by
      rw [heardFrom_cue]
      exact ⟨h1, h15, hm⟩
    rw [exec_frameDelivered_received hs hall hf, handOver_cue hclass, hp, takeCueFrame_taken taken, heardFrom_eq]
    rfl
  case passed =>
    have passed : ¬ cueTaken mask cue (heardFrom (claimStation f.claim) (s.modLink slotDelivered)).cue.membership := by
      rw [heardFrom_cue]
      rintro ⟨h1, h15, hm⟩
      rcases hno with rfl | h | ⟨h0, h⟩
      · exact absurd h1 (by decide)
      · omega
      · exact hm.elim h0 fun hm => hm h
    rw [exec_frameDelivered_received hs hall hf, handOver_cue hclass, hp, takeCueFrame_passed passed, heardFrom_eq]
    rfl
  case ill =>
    rw [exec_frameDelivered_received hs hall hf, handOver_cue hclass, takeCueFrame_ill hlen, heardFrom_eq]
    rfl
  case request =>
    rw [exec_frameDelivered_sent hs hh hq hf hpre, tellDelivered, ho, hp]
    exact congrArg (fun t => Host.Outcome.next (answer h .ok [] t)) (takeCueFrame_eq mask cue _)
  case watch =>
    rw [exec_frameDelivered_sent hs hh hq hf hpre, tellDelivered, ho, hp]
    exact congrArg _ (takeCueFrame_eq mask cue _)
  case halt =>
    rw [exec_frameDelivered_sent hs hh hq hf hpre, tellDelivered, ho]
    rfl
  case command =>
    rw [exec_frameDelivered_sent hs hh hq hf hpre, tellDelivered, ho]
    exact congrArg _ (markSent_split hr hid)

/-! ## HALT and COMMAND frames taken (R151, R160) -/

theorem takeHaltFrame_taken {mask cause : Byte} {s : State} (hc : cause.toNat ≤ 8)
    (hm : mask = 0 ∨ mask &&& s.cue.membership ≠ 0) (n : BitVec 4) : takeHaltFrame n [mask, cause] s =
      raiseEvent .remoteHalt (n.setWidth 8) (cause.setWidth 32) (haltStation s.fault.remoteStyle
        { s with fault := { s.fault with remote := some { station := n, cause := cause } } }) :=
  if_pos ⟨hc, (maskMeets_eq_true _ _).2 hm⟩

/-- Settles O20: hearing the sender touches only the link and records, so the halt acts on the station as it stood. -/
theorem haltFrameHaltsStation : Obligations.HaltFrameHaltsStation := by
  intro s f mask cause hs hall hf hclass hne hp hc hm
  obtain ⟨l, r, x, heard, hown, hdel⟩ := heardFrom_shape (claimStation f.claim) (s.modLink slotDelivered)
  have taken := exec_frameDelivered_received hs hall hf
  rw [handOver_halt hclass, hp, takeHaltFrame_taken hc (by rwa [heardFrom_cue]), heard] at taken
  refine ⟨_, taken, ?fault, fun c => ?chan, ?sound, ?delivered, ?_, ?_, ?_, ?_, ?_, ?_⟩
  case fault =>
    rw [raiseEvent_fault, haltStation_eq]
    rfl
  case chan =>
    rw [chan_raiseEvent, chan_haltStation]
    show ({ enterStop s.fault.remoteStyle (s.chan c) with haltFlag := true } : Channel) = _
    cases s.fault.remoteStyle <;> rfl
  case sound =>
    rw [raiseEvent_sound, haltStation_eq]
    rfl
  case delivered =>
    rw [raiseEvent_link_delivered, haltStation_eq]
    exact hdel
  all_goals rw [haltStation_eq]; simp

theorem takeCommand_request {n : BitVec 4} {tag d : Byte} {r : Request} (hr : r.wf = true) (s : State) :
    takeCommand n (requestBody tag d r) s = runRequest { tag := tag, station := d, dest := .station n } r
      (restartKeepalive (setRoute (.station n) s)) := by
  show (match decodeRequest r.kind r.args with | some r => _ | none => _) = _
  rw [requestsRoundTrip r hr]

/-- Settles O21: the frame is handed to the tablet port, which decodes the request and runs its row. -/
theorem deliveredCommandExecutes : Obligations.DeliveredCommandExecutes := by
  intro s f tag r hs hall hf hclass hsub hne hpresent hp hr
  have heard : heardFrom (claimStation f.claim) (s.modLink slotDelivered) =
      (s.modLink slotDelivered).modLink fun l => l.setRoster (claimStation f.claim) (some 1000) := by
    rw [heardFrom_other (by exact hne), stationHeard_present (by exact hpresent)]
  rw [exec_frameDelivered_received hs hall hf, handOver_directed hclass hsub, hp, requestBody, takeDirected_command,
    heardFrom_ownByte, heard]
  refine Eq.trans (congrArg _ (if_pos rfl)) (Eq.trans (congrArg _ ?_) (exec_request _ r _).symm)
  exact takeCommand_request hr _

end Sys2Proof.Machine
end

section
/-! PROOFS. Publishing: the checks of a publish set, the timer's expiry, and what each item sends (R17, R24 to R27). -/

namespace Sys2Proof.Machine

/-! ## The checks of SET_PUBLISH (R26) -/

theorem publishPeriodOk_eq_true (p : Nat) :
    publishPeriodOk p = true ↔ p = 0 ∨ (10 ≤ p ∧ p ≤ 1000 ∧ p % 10 = 0) := by
  simp [publishPeriodOk]

/-- The positions a test holds at are those of the list's range at which it holds of the items before and the item. -/
theorem positionsWhere_eq (test : List Byte → Byte → Bool) (seen : List Byte) (i : Nat) (l : List Byte) :
    positionsWhere test seen i l =
      ((List.range l.length).filter fun j => test (seen ++ l.take j) (l.getD j 0)).map (· + i) := by
  induction l generalizing seen i with
  | nil => rfl
  | cons c cs ih =>
    have later : (((List.range cs.length).map Nat.succ).filter fun j => test (seen ++ (c :: cs).take j)
          ((c :: cs).getD j 0)).map
        (· + i) = positionsWhere test (seen ++ [c]) (i + 1) cs := by
      rw [ih, List.filter_map, List.map_map]
      refine congrArg₂ _ (funext fun j => by simp only [Function.comp_apply, Nat.succ_eq_add_one]; omega) ?_
      refine List.filter_congr fun j _ => ?_
      simp
    rw [List.length_cons, List.range_succ_eq_map, List.filter_cons, positionsWhere]
    simp only [List.take_zero, List.append_nil, List.getD_cons_zero]
    split
    · rw [List.map_cons, later, Nat.zero_add]
    · exact later.symm

theorem positionsWhere_whole (test : List Byte → Byte → Bool) (l : List Byte) : positionsWhere test [] 0 l =
    (List.range l.length).filter fun j => test (l.take j) (l.getD j 0) := by
  rw [positionsWhere_eq]
  simp

/-- The positions from 8 on. -/
theorem positions_tooMany (l : List Byte) :
    positionsWhere (fun seen _ => decide (8 ≤ seen.length)) [] 0 l = List.range' 8 (l.length - 8) := by
  have size : ∀ j ∈ List.range l.length, decide (8 ≤ (l.take j).length) = decide (8 ≤ j) := fun j hj => by
    have := List.mem_range.1 hj
    rw [List.length_take, Nat.min_eq_left this.le]
  rw [positionsWhere_whole, List.filter_congr size]
  rcases Nat.le_total l.length 8 with h | h
  · rw [Nat.sub_eq_zero_of_le h, List.range'_zero, List.filter_eq_nil_iff]
    intro j hj
    have := List.mem_range.1 hj
    simp only [decide_eq_true_eq]
    omega
  · have parts : List.range l.length = List.range' 0 8 ++ List.range' 8 (l.length - 8) := by
      have whole := List.range'_append_1 (s := 0) (m := 8) (n := l.length - 8)
      rw [Nat.zero_add, Nat.add_sub_cancel' h] at whole
      rw [List.range_eq_range', whole]
    have before : (List.range' 0 8).filter (fun j => decide (8 ≤ j)) = [] := by decide
    have after : (List.range' 8 (l.length - 8)).filter (fun j => decide (8 ≤ j)) = List.range' 8 (l.length - 8) :=
      List.filter_eq_self.2 fun j hj => decide_eq_true (List.mem_range'_1.1 hj).1
    rw [parts, List.filter_append, before, after, List.nil_append]

/-- Of a list without repetitions no item stands earlier. -/
theorem no_item_repeated {l : List Byte} (h : l.Nodup) :
    ((List.range l.length).filter fun i => (l.take i).contains (l.getD i 0)) = [] := by
  rw [List.filter_eq_nil_iff]
  intro i hi hc
  have hi := List.mem_range.1 hi
  rw [List.getD_eq_getElem _ _ hi, List.contains_iff_mem] at hc
  have parts : l.take i ++ l[i] :: l.drop (i + 1) = l := by
    rw [← List.drop_eq_getElem_cons hi, List.take_append_drop]
  rw [← parts, List.nodup_append] at h
  exact h.2.2 _ hc _ List.mem_cons_self rfl

theorem no_item_invalid {l : List Byte} (h : ∀ c ∈ l, validItem c = true) :
    ((List.range l.length).filter fun i => !validItem (l.getD i 0)) = [] := by
  rw [List.filter_eq_nil_iff]
  intro i hi
  have hi := List.mem_range.1 hi
  rw [List.getD_eq_getElem _ _ hi, h _ (List.getElem_mem hi)]
  decide

/-- The first of the checks that refuses any position decides. -/
theorem refusedPositions_eq (l : List Byte) : refusedPositions l =
    if List.range' 8 (l.length - 8) ≠ [] then List.range' 8 (l.length - 8)
    else if ((List.range l.length).filter fun i => !validItem (l.getD i 0)) ≠ [] then
      (List.range l.length).filter fun i => !validItem (l.getD i 0)
    else (List.range l.length).filter fun i => (l.take i).contains (l.getD i 0) := by
  rw [refusedPositions]
  simp only [positions_tooMany]
  rw [positionsWhere_whole, positionsWhere_whole]

theorem range'_eight_eq_nil {n : Nat} (h : n ≤ 8) : List.range' 8 (n - 8) = [] := by
  rw [Nat.sub_eq_zero_of_le h, List.range'_zero]

/-! ## SET_PUBLISH (R26) -/

section SetPublish

variable (h : ReqCtx) {period : Half} {items : List Byte} (s : State)

theorem exec_setPublish (period : Half) (items : List Byte) :
    exec (.setPublish h period items) s = .next (doSetPublish h period items s) := rfl

theorem doSetPublish_period (hp : publishPeriodOk period.toNat = false) :
    doSetPublish h period items s = answer h .badArg [] s := by
  rw [doSetPublish, hp]
  rfl

theorem doSetPublish_refused (hp : publishPeriodOk period.toNat = true) (hr : refusedPositions items ≠ []) :
    doSetPublish h period items s = answer h .badArg (BitVec.ofNat 8 (refusedPositions items).length ::
      (refusedPositions items).map (BitVec.ofNat 8)) s := by
  rw [doSetPublish, hp]
  exact if_pos hr

theorem doSetPublish_accepted (hp : publishPeriodOk period.toNat = true) (hr : refusedPositions items = []) :
    doSetPublish h period items s = answer h .ok []
      { s with publish := acceptSet { items := items, period := period.toNat } s.publish } := by
  rw [doSetPublish, hp]
  exact if_neg (not_not.2 hr)

theorem acceptSet_eq (x : PublishSet) (u : PublishUnit) : acceptSet x u =
    if u.timer.isSome then { u with pendingSet := some x }
    else { current := x, pendingSet := none, timer := if x.period = 0 then none else some x.period } := by
  unfold acceptSet
  cases u.timer <;> rfl

end SetPublish

/-- Settles O24: the first check that refuses a position answers; a list that none refuses is accepted. -/
theorem setPublishTakesSet : Obligations.SetPublishTakesSet := by
  intro h period items s
  refine ⟨fun hbad => ?period, fun hgood hlen hvalid hnodup => ?accepted, fun hgood hlen _ => ?tooMany,
    fun hgood hlen hinv => ?invalid, fun hgood hlen hinv hrep => ?repeated⟩
  case period =>
    have hp : publishPeriodOk period.toNat = false := by rwa [← Bool.not_eq_true, publishPeriodOk_eq_true]
    rw [exec_setPublish, doSetPublish_period h s hp]
  case accepted =>
    have none_refused : refusedPositions items = [] := by
      rw [refusedPositions_eq, range'_eight_eq_nil hlen, no_item_invalid hvalid, no_item_repeated hnodup]
      simp
    rw [exec_setPublish, doSetPublish_accepted h s ((publishPeriodOk_eq_true _).2 hgood) none_refused, acceptSet_eq]
  case tooMany =>
    have refused : refusedPositions items = List.range' 8 (items.length - 8) := by
      rw [refusedPositions_eq]
      refine if_pos fun hn => ?_
      have := congrArg List.length hn
      rw [List.length_range', List.length_nil] at this
      omega
    have some_refused : refusedPositions items ≠ [] := by
      rw [refused]
      intro hn
      have := congrArg List.length hn
      rw [List.length_range', List.length_nil] at this
      omega
    rw [exec_setPublish, doSetPublish_refused h s ((publishPeriodOk_eq_true _).2 hgood) some_refused, refused]
  case invalid =>
    have refused := refusedPositions_eq items
    rw [range'_eight_eq_nil hlen, if_neg (by simp), if_pos hinv] at refused
    rw [exec_setPublish, doSetPublish_refused h s ((publishPeriodOk_eq_true _).2 hgood) (by rwa [refused]), refused]
  case repeated =>
    have refused := refusedPositions_eq items
    rw [range'_eight_eq_nil hlen, if_neg (by simp), if_neg (not_not.2 hinv)] at refused
    rw [exec_setPublish, doSetPublish_refused h s ((publishPeriodOk_eq_true _).2 hgood) (by rwa [refused]), refused]

/-! ## What the send queue does with a frame (R17, R18) -/

theorem roomFor_of_lt {q : List Frame} (halt : Bool) (h : q.length < 7) : roomFor halt q = true := by
  have := List.length_filter_le (fun f : Frame => !f.isHalt) q
  simp only [roomFor, Bool.and_eq_true, decide_eq_true_eq, Bool.or_eq_true]
  omega

theorem roomFor_full {q : List Frame} (halt : Bool) (h : 8 ≤ q.length) : roomFor halt q = false := by
  rw [roomFor, decide_eq_false (by omega), Bool.false_and]

theorem any_eq_false_of_not_publish {p : Frame → Bool} {q : List Frame} (hp : ∀ g, p g = true → g.isPublish = true)
    (h : ∀ g ∈ q, g.isPublish = false) : q.any p = false := by
  rw [List.any_eq_false]
  intro g hg hpg
  exact absurd (hp g hpg) (by simp [h g hg])

/-- While a PUBLISH frame contends a new one waits outside the queue (R17). -/
theorem enqueue_holds {l : Link} {f : Frame} (hf : f.isPublish = true)
    (h : ∃ g ∈ l.queue, g.isPublish = true ∧ g.contending = true) : enqueue f l = some { l with held := some f } := by
  obtain ⟨g, hg, hp, hc⟩ := h
  have contends : (l.queue.any fun g => g.isPublish && g.contending) = true :=
    List.any_eq_true.2 ⟨g, hg, by rw [hp, hc]; rfl⟩
  unfold enqueue
  rw [if_pos hf, if_pos contends]

theorem enqueue_appends {l : Link} {f : Frame} (hf : f.isPublish = true → ∀ g ∈ l.queue, g.isPublish = false)
    (h : l.queue.length < 7) : enqueue f l = some { l with queue := l.queue ++ [f] } := by
  unfold enqueue
  split
  · rename_i hp
    have none_contends := any_eq_false_of_not_publish (p := fun g => g.isPublish && g.contending)
      (fun g hg => (Bool.and_eq_true _ _ ▸ hg).1) (hf hp)
    have none_waits := any_eq_false_of_not_publish (p := Frame.waitingPublish)
      (fun g hg => (waitingPublish_eq_true.1 hg).1) (hf hp)
    rw [if_neg (by simp [none_contends]), if_neg (by simp [none_waits]), if_pos (roomFor_of_lt false h)]
  · rw [if_pos (roomFor_of_lt _ h)]

theorem enqueue_full {l : Link} {f : Frame} (hf : f.isPublish = false) (hq : ∀ g ∈ l.queue, g.isPublish = false)
    (h : 8 ≤ l.queue.length) : enqueue f l = none := by
  have none_waits := any_eq_false_of_not_publish (p := Frame.waitingPublish)
    (fun g hg => (waitingPublish_eq_true.1 hg).1) hq
  unfold enqueue
  rw [if_neg (by simp [hf]), if_neg (by simp [roomFor_full _ h]), if_neg (by simp [none_waits])]

/-! ## The publish timer (R27) -/

theorem exec_publishTimerExpiry (s : State) : exec .publishTimerExpiry s =
    .next (if ranOut s.publish.timer then publishExpiry s else s) := rfl

theorem exec_publishTimerExpiry_out {s : State} (h : s.publish.timer = some 0) :
    exec .publishTimerExpiry s = .next (publishExpiry s) := by
  rw [exec_publishTimerExpiry, if_pos ((ranOut_eq_true _).2 h)]

theorem adoptSet_none {u : PublishUnit} (h : u.pendingSet = none) : adoptSet u = u := by
  unfold adoptSet
  rw [h]

theorem adoptSet_some {u : PublishUnit} {x : PublishSet} (h : u.pendingSet = some x) :
    adoptSet u = { u with current := x, pendingSet := none } := by
  unfold adoptSet
  rw [h]

theorem publishExpiry_stops {s : State} (hn : s.publish.pendingSet = none) (hp : s.publish.current.period = 0) :
    publishExpiry s = { s with publish := { s.publish with timer := none } } := by
  have stop : publishStart s.publish.current.period = none := if_pos hp
  unfold publishExpiry
  simp only [adoptSet_none hn]
  rw [if_pos hp, stop]

/-- The items are sampled from all but the publication unit, so the restarted timer does not touch them. -/
theorem publishExpiry_offers {s : State} (hn : s.publish.pendingSet = none) (hp : s.publish.current.period ≠ 0) :
    publishExpiry s = (offer .publish (publishPayload s.publish.current.items s)
      { s with publish := { s.publish with timer := some s.publish.current.period } }).1 := by
  have start : publishStart s.publish.current.period = some s.publish.current.period := if_neg hp
  unfold publishExpiry
  simp only [adoptSet_none hn]
  rw [if_neg hp, start]
  rfl

theorem publishExpiry_adopts {s : State} {x : PublishSet} (hx : s.publish.pendingSet = some x) : publishExpiry s =
    publishExpiry { s with publish := { s.publish with current := x, pendingSet := none } } := by
  have adopted : adoptSet s.publish = adoptSet { s.publish with current := x, pendingSet := none } := by
    rw [adoptSet_some hx, adoptSet_none rfl]
  unfold publishExpiry
  simp only [adopted]

theorem offer_quiet {o : FrameOwner} {p : List Byte} {s : State} {m : Link} (hs : s.standalone = false)
    (hidle : m.state ≠ .idle) (hm : enqueue (newFrame s.link.own o p) s.link = some m) :
    offer o p s = ({ s with link := m }, true) := by
  rw [offer_taken hs hm, claimStart_of_closed (.inl hidle)]

theorem exec_publishTimerExpiry_queues {s : State} {m : Link} (out : s.publish.timer = some 0)
    (hn : s.publish.pendingSet = none) (hp : s.publish.current.period ≠ 0) (hs : s.standalone = false)
    (hidle : m.state ≠ .idle)
    (hm : enqueue (newFrame s.link.own .publish (publishPayload s.publish.current.items s)) s.link = some m) :
    exec .publishTimerExpiry s = .next
      { s with publish := { s.publish with timer := some s.publish.current.period }, link := m } := by
  rw [exec_publishTimerExpiry_out out, publishExpiry_offers hn hp]
  exact congrArg (fun r => Host.Outcome.next (Prod.fst r))
    (offer_quiet (s := { s with publish := { s.publish with timer := some s.publish.current.period } }) hs hidle hm)

/-! ## Items (R24, R25) -/

theorem chanIx_val (c : Fin 4) : chanIx c.val = c := by
  ext
  exact Nat.mod_eq_of_lt c.isLt

/-- A sum of powers of two is the number whose bits are given. -/
theorem sum_bits {n : Nat} (p : Fin n → Bool) :
    ((List.finRange n).map fun k => if p k then 2 ^ k.val else 0).sum = Nat.ofBits p := by
  induction n with
  | zero => rfl
  | succ n ih =>
    have double (k : Fin n) : (if p k.succ then 2 ^ k.succ.val else 0) = 2 * (if p k.succ then 2 ^ k.val else 0) := by
      rw [Fin.val_succ, pow_succ, mul_comm, mul_ite, mul_zero]
    rw [Nat.ofBits_succ, ← ih, List.finRange_succ, List.map_cons, List.sum_cons, List.map_map, ← List.sum_map_mul_left]
    simp only [Function.comp_def, double]
    cases p 0 <;> simp [add_comm]

theorem sourceMask_eq (p : Fin 8 → Bool) : sourceMask p = Nat.ofBits p := sum_bits p

theorem sourceMask_lt (p : Fin 8 → Bool) : sourceMask p < 256 := by
  rw [sourceMask_eq]
  exact Nat.ofBits_lt_two_pow p

theorem testBit_sourceMask (p : Fin 8 → Bool) (k : Fin 8) : (sourceMask p).testBit k.val = p k := by
  rw [sourceMask_eq, Nat.testBit_ofBits_lt p k.val k.isLt]

theorem itemCode_split {kind index : Nat} (hk : kind < 16) (hi : index < 16) :
    (BitVec.ofNat 8 (16 * kind + index)).toNat / 16 = kind ∧ (BitVec.ofNat 8 (16 * kind + index)).toNat % 16 = index := by
  rw [BitVec.toNat_ofNat, Nat.mod_eq_of_lt (by omega)]
  omega

theorem itemValue_position (c : Fin 4) (s : State) : itemValue (BitVec.ofNat 8 (16 + c.val)) s =
    if (s.chan c).kind = .plain then none else some (s.chan c).position := by
  obtain ⟨kind, index⟩ := itemCode_split (kind := 1) (index := c.val) (by omega) (by omega)
  simp only [itemValue, kind, index, chanIx_val]

theorem itemValue_speed (c : Fin 4) (s : State) : itemValue (BitVec.ofNat 8 (32 + c.val)) s =
    if (s.chan c).kind = .plain then none else some (toWord (s.chan c).speed) := by
  obtain ⟨kind, index⟩ := itemCode_split (kind := 2) (index := c.val) (by omega) (by omega)
  simp only [itemValue, kind, index, chanIx_val]

/-- The index of a port's value splits into port and value (R24). -/
theorem portIndex_split (p n : Fin 4) : chanIx ((4 * p.val + n.val) / 4) = p ∧ (4 * p.val + n.val) % 4 = n.val := by
  rw [show (4 * p.val + n.val) / 4 = p.val by omega, chanIx_val]
  exact ⟨rfl, by omega⟩

theorem itemValue_reading (p n : Fin 4) (s : State) : itemValue (BitVec.ofNat 8 (48 + 4 * p.val + n.val)) s =
    recordValue (s.port p).reading.valid (s.port p).reading.values n.val := by
  obtain ⟨kind, index⟩ := itemCode_split (kind := 3) (index := 4 * p.val + n.val) (by omega) (by omega)
  obtain ⟨port, value⟩ := portIndex_split p n
  simp only [itemValue, Nat.add_assoc, kind, index, port, value]

theorem itemValue_snapshot (p n : Fin 4) (s : State) : itemValue (BitVec.ofNat 8 (64 + 4 * p.val + n.val)) s =
    recordValue (s.port p).snapshot.valid (s.port p).snapshot.values n.val := by
  obtain ⟨kind, index⟩ := itemCode_split (kind := 4) (index := 4 * p.val + n.val) (by omega) (by omega)
  obtain ⟨port, value⟩ := portIndex_split p n
  simp only [itemValue, Nat.add_assoc, kind, index, port, value]

theorem itemWord_some {code : Byte} {v : Word} {s : State} (h : itemValue code s = some v) :
    itemWord code s = if v = 0x80000000#32 then 0x80000001#32 else v := by
  rw [itemWord, h]
  rfl

theorem itemWord_none {code : Byte} {s : State} (h : itemValue code s = none) : itemWord code s = 0x80000000#32 := by
  rw [itemWord, h]
  rfl

def recordWord (r : Option Word) : Word :=
  match r with
  | some v => sentValue v
  | none => noValue

theorem itemWord_eq {code : Byte} {s : State} {r : Option Word} (h : itemValue code s = r) : itemWord code s = recordWord r :=
  h ▸ rfl

theorem recordWord_recordValue (valid : Bool) (values : List Word) (n : Nat) :
    recordWord (recordValue valid values n) = match valid, values[n]? with
      | true, some v => if v = 0x80000000#32 then 0x80000001#32 else v
      | _, _ => 0x80000000#32 := by
  cases valid with
  | false => rfl
  | true => cases hv : values[n]? <;> simp only [recordValue, if_true, hv] <;> rfl

theorem toWord_natCast (n : Nat) : toWord (n : Int) = BitVec.ofNat 32 n := BitVec.ofInt_natCast 32 n

/-- A number below 256 is never the pattern of "no value". -/
theorem sent_small {n : Nat} (h : n < 256) :
    (if BitVec.ofNat 32 n = 0x80000000#32 then 0x80000001#32 else BitVec.ofNat 32 n) = BitVec.ofNat 32 n := by
  refine if_neg fun e => ?_
  have := congrArg BitVec.toNat e
  rw [BitVec.toNat_ofNat, Nat.mod_eq_of_lt (by omega)] at this
  simp at this
  omega

theorem watchStatesItem_lt (s : State) : watchStatesItem s < 256 := sourceMask_lt _

theorem itemWord_watches (s : State) : itemWord 0x60 s = BitVec.ofNat 32 (watchStatesItem s) :=
  (itemWord_some rfl).trans (by rw [toWord_natCast, sent_small (watchStatesItem_lt s)])

theorem acted_iff (w : Watch) : w.acted = decide (w.state ≠ .armed) := by
  cases h : w.state <;> simp [Watch.acted, h]

theorem getLsbD_itemWord_watches (s : State) (k : Fin 8) : (itemWord 0x60 s).getLsbD k.val = match s.watch k with
    | some w => decide (w.state ≠ .armed)
    | none => false := by
  rw [itemWord_watches, BitVec.getLsbD_ofNat, watchStatesItem, testBit_sourceMask, decide_eq_true (by omega), Bool.true_and]
  cases s.watch k with
  | none => rfl
  | some w => exact acted_iff w

theorem itemWord_plain {c : Fin 4} {s : State} (h : (s.chan c).kind = .plain) :
    itemWord (BitVec.ofNat 8 (16 + c.val)) s = 0x80000000#32 ∧ itemWord (BitVec.ofNat 8 (32 + c.val)) s = 0x80000000#32 :=
  ⟨itemWord_none ((itemValue_position c s).trans (if_pos h)), itemWord_none ((itemValue_speed c s).trans (if_pos h))⟩

theorem itemWord_fault (s : State) : itemWord 0x70 s = if s.fault.halted then 1 else 0 := by
  refine (itemWord_some rfl).trans ?_
  cases s.fault.halted <;> rfl

/-- Settles O25: what an expiry does to the set and the queue, and the word sent for an item of each kind. -/
theorem publishExpiryOffersSample : Obligations.PublishExpiryOffersSample := by
  unfold Obligations.PublishExpiryOffersSample
  refine ⟨fun s out none_waits running online busy => ?_, fun s => ⟨fun h => ?_, fun out none_waits stopped => ?_,
    fun x out waits => ?_⟩, fun s c => ⟨itemWord_plain, fun encoded => ?_,
    fun p n => (itemWord_eq (itemValue_reading p n s)).trans (recordWord_recordValue ..),
    fun p n => (itemWord_eq (itemValue_snapshot p n s)).trans (recordWord_recordValue ..), ?_, ?_,
    getLsbD_itemWord_watches s, itemWord_fault s⟩⟩
  · have queues := fun m => exec_publishTimerExpiry_queues (m := m) out none_waits running online
    exact ⟨fun contends => queues _ busy (enqueue_holds rfl contends),
      fun pre post g split kind waits alone => queues _ busy (enqueue_replaces rfl split kind waits alone),
      fun none_queued short => queues _ busy (enqueue_appends (fun _ => none_queued) short)⟩
  · rw [exec_publishTimerExpiry, if_neg (by simpa [ranOut_eq_true] using h)]
  · rw [exec_publishTimerExpiry_out out, publishExpiry_stops none_waits stopped]
  · rw [exec_publishTimerExpiry_out out, exec_publishTimerExpiry_out (by exact out), publishExpiry_adopts waits]
  · have moves : ¬ (s.chan c).kind = .plain := by simp [encoded]
    exact ⟨itemWord_some ((itemValue_position c s).trans (if_neg moves)),
      itemWord_some ((itemValue_speed c s).trans (if_neg moves))⟩
  · exact (itemWord_some rfl).trans (by rw [toWord_natCast]; rfl)
  · rw [itemWord_watches, BitVec.toNat_ofNat, Nat.mod_eq_of_lt (by have := watchStatesItem_lt s; omega)]
    exact watchStatesItem_lt s

end Sys2Proof.Machine
end

section
/-! PROOFS. The listen table and its mirrors (R30 to R36): SET_LISTEN, PUBLISH frames taken, the age timer. -/

namespace Sys2Proof.Machine

/-! ## SET_LISTEN (R30) -/

theorem wordBytes_zero : wordBytes 0 = [0, 0, 0, 0] := by decide

theorem heldElsewhere_eq_true (k : Fin 16) (source : BitVec 4) (item : Byte) (s : State) :
    heldElsewhere k source item s = true ↔
      ∃ j, j ≠ k ∧ ∃ e, s.entry j = some e ∧ e.source = source ∧ e.item = item := by
  have every (j : Fin 16) : j ∈ all16 := by fin_cases j <;> decide
  simp only [heldElsewhere, List.any_eq_true, every, true_and, Bool.and_eq_true, bne_iff_ne]
  refine exists_congr fun j => and_congr_right fun _ => ?_
  cases s.entry j <;> simp

theorem okOr_bne {α : Type} [DecidableEq α] (a b : α) : okOr (a != b) = if a = b then .ok else .limited := by
  by_cases h : a = b <;> simp [okOr, h]

theorem answerMirror_of_entry {k : Fin 16} {s : State} {e : ListenEntry} (h : s.entry k = some e) (r : ReqCtx)
    (limited : Bool) : answerMirror r limited k s = answer r (okOr limited) (e.state.code :: wordBytes e.value) s := by
  unfold answerMirror
  rw [h]

theorem answerMirror_newEntry (r : ReqCtx) (limited : Bool) (k : Fin 16) (source : BitVec 4) (item : Byte) (limit : Nat)
    (s : State) : answerMirror r limited k (s.setEntry k (some (newEntry source item limit))) =
      answer r (okOr limited) [0, 0, 0, 0, 0] (s.setEntry k (some (newEntry source item limit))) := by
  rw [answerMirror_of_entry (entry_setEntry_self ..)]
  simp only [newEntry, MirrorState.code, wordBytes_zero]

theorem setListenAt_unused {k : Fin 16} {s : State} (h : s.entry k = none) (r : ReqCtx) (source : BitVec 4) (item : Byte)
    (limit : Nat) (limited : Bool) : setListenAt r k source item limit limited s =
      answer r (okOr limited) [0, 0, 0, 0, 0] (s.setEntry k (some (newEntry source item limit))) := by
  unfold setListenAt
  rw [h]
  exact answerMirror_newEntry ..

theorem setListenAt_replaced {k : Fin 16} {s : State} {e : ListenEntry} {source : BitVec 4} {item : Byte}
    (h : s.entry k = some e) (other : ¬(e.source = source ∧ e.item = item)) (unnamed : s.useCount k = 0) (r : ReqCtx)
    (limit : Nat) (limited : Bool) : setListenAt r k source item limit limited s =
      answer r (okOr limited) [0, 0, 0, 0, 0] (s.setEntry k (some (newEntry source item limit))) := by
  simp only [setListenAt, h, if_neg other, if_pos unnamed]
  exact answerMirror_newEntry ..

theorem setListenAt_named {k : Fin 16} {s : State} {e : ListenEntry} {source : BitVec 4} {item : Byte}
    (h : s.entry k = some e) (other : ¬(e.source = source ∧ e.item = item)) (named : s.useCount k ≠ 0) (r : ReqCtx)
    (limit : Nat) (limited : Bool) : setListenAt r k source item limit limited s = answer r .inUse [] s := by
  simp only [setListenAt, h, if_neg other, if_neg named]

theorem setListenAt_same {k : Fin 16} {s : State} {e : ListenEntry} {source : BitVec 4} {item : Byte}
    (h : s.entry k = some e) (same : e.source = source ∧ e.item = item) (r : ReqCtx) (limit : Nat) (limited : Bool) :
    setListenAt r k source item limit limited s = answerMirror r limited k (newLimit k e limit s) := by
  simp only [setListenAt, h, if_pos same]

theorem newLimit_reached {k : Fin 16} {e : ListenEntry} {limit : Nat}
    (h : e.state = .fresh ∧ ∃ a, e.age = some a ∧ limit ≤ a) (s : State) :
    newLimit k e limit s = goStale k { e with limit := limit } 1 s :=
  if_pos ((limitReached_eq_true { e with limit := limit }).2 h)

theorem newLimit_ahead {k : Fin 16} {e : ListenEntry} {limit : Nat}
    (h : ¬(e.state = .fresh ∧ ∃ a, e.age = some a ∧ limit ≤ a)) (s : State) :
    newLimit k e limit s = s.setEntry k (some { e with limit := limit }) :=
  if_neg fun reached => h ((limitReached_eq_true { e with limit := limit }).1 reached)

/-- A station number other than 0, 15 and the own number, and a valid item, pass the argument checks (R30). -/
theorem doSetListen_checked {source : BitVec 4} {item : Byte} {s : State} (h0 : source ≠ 0) (h15 : source ≠ 15)
    (own : source ≠ s.link.own) (valid : validItem item = true) (r : ReqCtx) (k : Fin 16) (limit : Half) :
    doSetListen r (BitVec.ofNat 8 k.val) (source.setWidth 8) item limit s =
      if heldElsewhere k source item s then answer r .inUse [] s
      else setListenAt r k source item (clampN 20 2000 limit.toNat) (clampN 20 2000 limit.toNat != limit.toNat) s := by
  have narrowed : (source.setWidth 8).setWidth 4 = source := by simp
  have passes : ¬((source.setWidth 8).toNat < 1 ∨ 14 < (source.setWidth 8).toNat ∨ source.setWidth 8 = s.ownByte) := by
    rintro (low | high | mine)
    · bv_omega
    · bv_omega
    · refine own ?_
      rw [← narrowed, mine, State.ownByte]
      simp
  simp only [doSetListen, listenOf_ofNat, if_neg passes, valid, Bool.not_true, Bool.false_eq_true, if_false, narrowed]

theorem doSetListen_badArg {index source item : Byte} {s : State}
    (h : 15 < index.toNat ∨ source = 0 ∨ 14 < source.toNat ∨ source = s.link.own.setWidth 8 ∨ validItem item = false)
    (r : ReqCtx) (limit : Half) : doSetListen r index source item limit s = answer r .badArg [] s := by
  unfold doSetListen
  split
  · rfl
  · rename_i k hk
    have inside : ¬ 15 < index.toNat := fun out => by simp [(listenOf_eq_none_iff index).2 out] at hk
    split
    · rfl
    · rename_i passes
      have invalid : validItem item = false := by
        rcases h with out | zero | high | mine | invalid
        · exact absurd out inside
        · exact absurd (.inl (by simp [zero])) passes
        · exact absurd (.inr (.inl high)) passes
        · exact absurd (.inr (.inr mine)) passes
        · exact invalid
      rw [if_pos (by simp [invalid])]

/-- Settles O26, by the use of the entry at the index. -/
theorem setListenMakesEntry : Obligations.SetListenMakesEntry := by
  unfold Obligations.SetListenMakesEntry
  refine ⟨fun h k source item limit s h0 h15 own valid => ?_,
    fun h index source item limit s bad => congrArg _ (doSetListen_badArg bad h limit)⟩
  intro n lim code i held anew
  have checked := doSetListen_checked h0 h15 own valid h k limit
  have limited : okOr (lim != n) = code := okOr_bne lim n
  refine ⟨fun j e other at_j holds => congrArg _ (checked.trans ?_), fun nowhere => ?_⟩
  · exact if_pos ((heldElsewhere_eq_true k source item s).2 ⟨j, other, e, at_j, holds⟩)
  · have free : ¬ heldElsewhere k source item s = true := by
      rw [heldElsewhere_eq_true]
      rintro ⟨j, other, e, at_j, holds⟩
      exact nowhere j other e (by simp [at_j]) holds
    have taken {t : State} (at_k : setListenAt h k source item lim (lim != n) s = t) : exec i s = .next t :=
      congrArg _ (checked.trans ((if_neg free).trans at_k))
    rw [← limited]
    refine ⟨fun unused => taken (setListenAt_unused unused ..), fun e used other =>
      ⟨fun unnamed => taken (setListenAt_replaced used other unnamed ..),
        fun named => taken (setListenAt_named used other named ..)⟩, fun e used same => ⟨fun expires => taken ?_,
      fun stays => taken ?_⟩⟩
    · rw [setListenAt_same used same, newLimit_reached expires]
      exact answerMirror_of_entry (e := { e with limit := lim, state := .stale, age := none })
        (by simp only [goStale, entry_raiseEvent, entry_setEntry_self]) ..
    · rw [setListenAt_same used same, newLimit_ahead stays]
      refine (answerMirror_of_entry (entry_setEntry_self ..) ..).trans ?_
      cases hs : e.state <;> rfl

/-! ## Steps in turn -/

section ForEach

variable {α : Type} {f : α → State → State}

theorem forEach_append (l m : List α) (f : α → State → State) (s : State) :
    forEach (l ++ m) f s = forEach m f (forEach l f s) := List.foldl_append ..

theorem forEach_cons (a : α) (l : List α) (f : α → State → State) (s : State) :
    forEach (a :: l) f s = forEach l f (f a s) := rfl

theorem forEach_fixed {l : List α} {s : State} (h : ∀ a ∈ l, f a s = s) : forEach l f s = s :=
  forEach_induct (P := fun t => t = s) l (fun a ha _ ht => ht ▸ h a ha) rfl

/-- One step acts, and the others leave what they find. -/
theorem forEach_once {l : List α} {a : α} {s : State} (ha : a ∈ l) (hl : l.Nodup) (before : ∀ b, b ≠ a → f b s = s)
    (after : ∀ b, b ≠ a → f b (f a s) = f a s) : forEach l f s = f a s := by
  obtain ⟨pre, post, rfl⟩ := List.append_of_mem ha
  obtain ⟨-, hpost, hdisj⟩ := List.nodup_append.1 hl
  rw [forEach_append, forEach_fixed fun b hb => before b fun e => hdisj b hb a List.mem_cons_self e, forEach_cons,
    forEach_fixed fun b hb => after b fun e => (List.nodup_cons.1 hpost).1 (e ▸ hb)]

/-- Steps that agree on the states that a run of the second kind meets. -/
theorem forEach_congr {g : α → State → State} {P : State → Prop} {l : List α}
    (h : ∀ a s, P s → f a s = g a s ∧ P (g a s)) {s : State} (hs : P s) : forEach l f s = forEach l g s := by
  induction l generalizing s with
  | nil => rfl
  | cons a l ih => rw [forEach_cons, forEach_cons, (h a s hs).1, ih (h a s hs).2]

end ForEach

theorem mem_all16 (k : Fin 16) : k ∈ all16 := by fin_cases k <;> decide

theorem nodup_all16 : all16.Nodup := by decide

theorem mem_all8 (k : Fin 8) : k ∈ all8 := by fin_cases k <;> decide

theorem nodup_all8 : all8.Nodup := by decide

theorem evaluateAt_unwatched {k : Fin 8} {s : State} (h : s.watch k = none) (u : Update) : evaluateAt u k s = s := by
  unfold evaluateAt
  rw [h]

theorem watchUpdate_unwatched {s : State} (h : ∀ k, s.watch k = none) (u : Update) : watchUpdate u s = s :=
  forEach_fixed fun k _ => evaluateAt_unwatched (h k) u

theorem raiseEvent_masked {s : State} (h : s.tablet.mask = 0) (k : EventKind) (b : Byte) (a : Word) :
    raiseEvent k b a s = s := if_neg (by simp [h])

/-! ## What a PUBLISH frame carries (R32) -/

theorem publishEntries_flatMap (es : List (Byte × Word)) :
    publishEntries (es.flatMap fun e => e.1 :: wordBytes e.2) = some es := by
  induction es with
  | nil => rfl
  | cons e es ih =>
    show (publishEntries (es.flatMap fun e => e.1 :: wordBytes e.2)).map _ = _
    rw [ih, Option.map_some, word_extract]

theorem length_of_publishEntries (l : List Byte) : ∀ es, publishEntries l = some es → l.length = 5 * es.length := by
  fun_induction publishEntries l with
  | case1 =>
    rintro es ⟨⟩
    rfl
  | case2 c a b d e rest ih =>
    intro es h
    obtain ⟨es', h', rfl⟩ := Option.map_eq_some_iff.1 h
    have := ih es' h'
    simp only [List.length_cons]
    omega
  | case3 => exact fun _ h => nomatch h

theorem takePublish_ragged {l : List Byte} (h : l.length % 5 ≠ 0) (n : BitVec 4) (s : State) : takePublish n l s = s := by
  unfold takePublish
  split
  · rename_i es hes
    have := length_of_publishEntries l es hes
    omega
  · rfl

theorem takePublish_doubled {es : List (Byte × Word)} (h : ¬(es.map Prod.fst).Nodup) (n : BitVec 4) (s : State) :
    takePublish n (es.flatMap fun e => e.1 :: wordBytes e.2) s = s := by
  simp only [takePublish, publishEntries_flatMap, distinctItems, decide_eq_false h, Bool.false_eq_true, if_false]

theorem takePublish_distinct {es : List (Byte × Word)} (h : (es.map Prod.fst).Nodup) (n : BitVec 4) (s : State) :
    takePublish n (es.flatMap fun e => e.1 :: wordBytes e.2) s = forEach all16 (mirrorStep n es) s := by
  simp only [takePublish, publishEntries_flatMap, distinctItems, decide_eq_true h, if_true]

theorem valueFor_of_mem {es : List (Byte × Word)} {item : Byte} {v : Word} (hn : (es.map Prod.fst).Nodup)
    (h : (item, v) ∈ es) : valueFor item es = some v := by
  induction es with
  | nil => exact nomatch h
  | cons e es ih =>
    obtain ⟨fresh, rest⟩ := List.nodup_cons.1 hn
    rcases List.mem_cons.1 h with rfl | h
    · simp [valueFor]
    · have other : e.1 ≠ item := fun he => fresh (he ▸ List.mem_map_of_mem (f := Prod.fst) h)
      rw [← ih rest h, valueFor, valueFor, List.find?_cons_of_neg (by simpa using other)]

theorem valueFor_of_not_mem {es : List (Byte × Word)} {item : Byte} (h : ∀ v, (item, v) ∉ es) :
    valueFor item es = none := by
  simp only [valueFor, Option.map_eq_none_iff, List.find?_eq_none, beq_iff_eq]
  rintro ⟨i, v⟩ he rfl
  exact h v he

/-! ## What a mirror takes (R33, R34) -/

/-- An entry after a frame of its sender, with no watch on it. -/
def mirrored (n : BitVec 4) (es : List (Byte × Word)) (e : ListenEntry) : ListenEntry :=
  if e.source = n then
    match valueFor e.item es with
    | some v =>
      if v ≠ 0x80000000#32 then { e with value := v, state := .fresh, age := some 0 }
      else if e.state = .fresh then { e with state := .stale, age := none } else e
    | none => e
  else e

theorem mirrored_other {n : BitVec 4} {e : ListenEntry} (h : e.source ≠ n) (es : List (Byte × Word)) :
    mirrored n es e = e := if_neg h

theorem mirrored_absent {es : List (Byte × Word)} {e : ListenEntry} (h : ∀ v, (e.item, v) ∉ es) (n : BitVec 4) :
    mirrored n es e = e := by
  simp only [mirrored, valueFor_of_not_mem h, ite_self]

theorem mirrored_given {n : BitVec 4} {es : List (Byte × Word)} {e : ListenEntry} {v : Word} (hn : (es.map Prod.fst).Nodup)
    (hs : e.source = n) (h : (e.item, v) ∈ es) : mirrored n es e =
      if v ≠ 0x80000000#32 then { e with value := v, state := .fresh, age := some 0 }
      else if e.state = .fresh then { e with state := .stale, age := none } else e := by
  simp only [mirrored, if_pos hs, valueFor_of_mem hn h]

/-- A state in which a mirror's change is told to nobody. -/
def Untold (s : State) : Prop := s.tablet.mask = 0 ∧ ∀ k, s.watch k = none

theorem Untold.setEntry {s : State} (h : Untold s) (k : Fin 16) (e : Option ListenEntry) : Untold (s.setEntry k e) := h

theorem setEntry_entry (k : Fin 16) (s : State) : s.setEntry k (s.entry k) = s := by
  have same : s.listen.set k.val (s.entry k) k.isLt = s.listen := Vector.set_getElem_self ..
  rw [State.setEntry, same]

theorem takeValue_untold {s : State} (h : Untold s) (k : Fin 16) (e : ListenEntry) (v : Word) :
    takeValue k e v s = s.setEntry k (some { e with value := v, state := .fresh, age := some 0 }) := by
  have quiet := h.setEntry k (some { e with value := v, state := .fresh, age := some 0 })
  rw [takeValue, raiseEvent_masked quiet.1, ite_self, watchUpdate_unwatched quiet.2]

theorem takeNoValue_fresh {e : ListenEntry} (h : e.state = .fresh) (k : Fin 16) (s : State) :
    takeNoValue k e s = goStale k e 2 s := by
  rw [takeNoValue, h]

theorem takeNoValue_old {e : ListenEntry} (h : e.state ≠ .fresh) (k : Fin 16) (s : State) : takeNoValue k e s = s := by
  unfold takeNoValue
  split
  · exact absurd ‹_› h
  · rfl

theorem mirrorStep_unused {k : Fin 16} {s : State} (h : s.entry k = none) (n : BitVec 4) (es : List (Byte × Word)) :
    mirrorStep n es k s = s := by
  unfold mirrorStep
  rw [h]

theorem mirrorStep_absent {k : Fin 16} {s : State} {e : ListenEntry} {n : BitVec 4} {es : List (Byte × Word)}
    (h : s.entry k = some e) (absent : e.source = n → valueFor e.item es = none) : mirrorStep n es k s = s := by
  simp only [mirrorStep, h]
  split
  · rename_i hs
    rw [absent hs]
  · rfl

theorem mirrorStep_given {k : Fin 16} {s : State} {e : ListenEntry} {n : BitVec 4} {es : List (Byte × Word)} {v : Word}
    (h : s.entry k = some e) (hs : e.source = n) (hv : valueFor e.item es = some v) :
    mirrorStep n es k s = if v = 0x80000000#32 then takeNoValue k e s else takeValue k e v s := by
  simp only [mirrorStep, h, if_pos hs, hv]
  rfl

theorem mirrorStep_untold {s : State} (h : Untold s) (n : BitVec 4) (es : List (Byte × Word)) (k : Fin 16) :
    mirrorStep n es k s = s.setEntry k ((s.entry k).map (mirrored n es)) := by
  cases he : s.entry k with
  | none => rw [mirrorStep_unused he, Option.map_none, ← he, setEntry_entry]
  | some e =>
    have kept : s = s.setEntry k (some e) := by rw [← he, setEntry_entry]
    by_cases hs : e.source = n
    · cases hv : valueFor e.item es with
      | none =>
        have same : mirrored n es e = e := by simp only [mirrored, hv, ite_self]
        rw [mirrorStep_absent he fun _ => hv, Option.map_some, same]
        exact kept
      | some v =>
        simp only [mirrorStep_given he hs hv, Option.map_some, mirrored, if_pos hs, hv]
        by_cases none_given : v = 0x80000000#32
        · rw [if_pos none_given, if_neg (not_not.2 none_given)]
          by_cases fresh : e.state = .fresh
          · rw [takeNoValue_fresh fresh, if_pos fresh, goStale, raiseEvent_masked (h.setEntry k _).1]
          · rw [takeNoValue_old fresh, if_neg fresh]
            exact kept
        · rw [if_neg none_given, if_pos none_given, takeValue_untold h]
    · rw [mirrorStep_absent he fun h => absurd h hs, Option.map_some, mirrored_other hs]
      exact kept

/-- A function applied to the entries in turn. -/
theorem entry_forEach_map {l : List (Fin 16)} (hl : l.Nodup) (g : ListenEntry → ListenEntry) (s : State) (k : Fin 16) :
    (forEach l (fun j t => t.setEntry j ((t.entry j).map g)) s).entry k =
      if k ∈ l then (s.entry k).map g else s.entry k := by
  induction l generalizing s with
  | nil => rfl
  | cons j l ih =>
    obtain ⟨fresh, rest⟩ := List.nodup_cons.1 hl
    rw [forEach_cons, ih rest, entry_setEntry]
    by_cases hk : k = j
    · rw [hk, if_neg fresh, if_pos rfl, if_pos List.mem_cons_self]
    · simp only [List.mem_cons, hk, if_false, false_or]

theorem takePublish_untold {s : State} (h : Untold s) {es : List (Byte × Word)} (hn : (es.map Prod.fst).Nodup)
    (n : BitVec 4) : ∃ x, takePublish n (es.flatMap fun e => e.1 :: wordBytes e.2) s = { s with listen := x } ∧
      ∀ k, ({ s with listen := x } : State).entry k = (s.entry k).map (mirrored n es) := by
  have steps : takePublish n (es.flatMap fun e => e.1 :: wordBytes e.2) s =
      forEach all16 (fun j t => t.setEntry j ((t.entry j).map (mirrored n es))) s :=
    (takePublish_distinct hn n s).trans (forEach_congr (P := Untold)
      (fun k t ht => ⟨mirrorStep_untold ht n es k, ht.setEntry k _⟩) h)
  obtain ⟨x, hx⟩ := forEach_induct (P := fun t => ∃ x, t = { s with listen := x }) all16
    (f := fun j t => t.setEntry j ((t.entry j).map (mirrored n es))) (by
      rintro j _ _ ⟨x, rfl⟩
      exact ⟨_, rfl⟩) ⟨s.listen, rfl⟩
  refine ⟨x, steps.trans hx, fun k => ?_⟩
  rw [← hx, entry_forEach_map nodup_all16, if_pos (mem_all16 k)]

/-! ## One frame with one item -/

theorem takePublish_one {n : BitVec 4} {e : ListenEntry} {k : Fin 16} {s u : State} {v : Word} (hk : s.entry k = some e)
    (hs : e.source = n) (alone : ∀ j, j ≠ k → ∀ x ∈ (s.entry j).toList, ¬(x.source = e.source ∧ x.item = e.item))
    (hu : (if v = 0x80000000#32 then takeNoValue k e s else takeValue k e v s) = u)
    (others : ∀ j, j ≠ k → u.entry j = s.entry j) : takePublish n (e.item :: wordBytes v) s = u := by
  have given : valueFor e.item [(e.item, v)] = some v := by simp [valueFor]
  have acts : mirrorStep n [(e.item, v)] k s = u := (mirrorStep_given hk hs given).trans hu
  have passes (j : Fin 16) (hj : j ≠ k) (t : State) (ht : t.entry j = s.entry j) :
      mirrorStep n [(e.item, v)] j t = t := by
    cases hx : t.entry j with
    | none => exact mirrorStep_unused hx n _
    | some x =>
      refine mirrorStep_absent hx fun hxs => valueFor_of_not_mem fun w hw => ?_
      rw [List.mem_singleton, Prod.mk.injEq] at hw
      exact alone j hj x (by simp [← ht, hx]) ⟨hxs.trans hs.symm, hw.1⟩
  have one := takePublish_distinct (es := [(e.item, v)]) (by simp) n s
  rw [List.flatMap_singleton] at one
  rw [one, ← acts]
  exact forEach_once (mem_all16 k) nodup_all16 (fun j hj => passes j hj s rfl)
    (fun j hj => acts ▸ passes j hj u (others j hj))

theorem takeValue_unwatched {s : State} (h : ∀ k, s.watch k = none) (k : Fin 16) (e : ListenEntry) (v : Word) :
    takeValue k e v s =
      if e.state = .stale then
        raiseEvent .mirrorFresh (toByte k.val) v (s.setEntry k (some { e with value := v, state := .fresh, age := some 0 }))
      else s.setEntry k (some { e with value := v, state := .fresh, age := some 0 }) := by
  refine watchUpdate_unwatched (fun j => ?_) _
  split
  · rw [watch_raiseEvent]
    exact h j
  · exact h j

theorem takePublish_item {n : BitVec 4} {e : ListenEntry} {k : Fin 16} {s : State} {v : Word}
    (unwatched : ∀ k, s.watch k = none) (hk : s.entry k = some e) (hs : e.source = n)
    (alone : ∀ j, j ≠ k → ∀ x ∈ (s.entry j).toList, ¬(x.source = e.source ∧ x.item = e.item)) :
    (v ≠ 0x80000000#32 → takePublish n (e.item :: wordBytes v) s =
      if e.state = .stale then
        raiseEvent .mirrorFresh (toByte k.val) v (s.setEntry k (some { e with value := v, state := .fresh, age := some 0 }))
      else s.setEntry k (some { e with value := v, state := .fresh, age := some 0 })) ∧
    (v = 0x80000000#32 → e.state = .fresh → takePublish n (e.item :: wordBytes v) s =
      raiseEvent .mirrorStale (toByte k.val) 2 (s.setEntry k (some { e with state := .stale, age := none }))) ∧
    (v = 0x80000000#32 → e.state ≠ .fresh → takePublish n (e.item :: wordBytes v) s = s) := by
  have set_other {x : Option ListenEntry} (j : Fin 16) (hj : j ≠ k) : (s.setEntry k x).entry j = s.entry j := by
    rw [entry_setEntry, if_neg hj]
  refine ⟨fun hv => ?_, fun hv fresh => ?_, fun hv old => ?_⟩
  · refine takePublish_one hk hs alone ((if_neg hv).trans (takeValue_unwatched unwatched ..)) fun j hj => ?_
    split
    · rw [entry_raiseEvent, set_other j hj]
    · exact set_other j hj
  · refine takePublish_one hk hs alone ((if_pos hv).trans (takeNoValue_fresh fresh ..)) fun j hj => ?_
    rw [entry_raiseEvent, set_other j hj]
  · exact takePublish_one hk hs alone ((if_pos hv).trans (takeNoValue_old old ..)) fun j hj => rfl

theorem takePublish_items {s : State} (h : Untold s) {es : List (Byte × Word)} (hn : (es.map Prod.fst).Nodup)
    (n : BitVec 4) : ∃ u : State, takePublish n (es.flatMap fun e => e.1 :: wordBytes e.2) s = u ∧
      u = { s with listen := u.listen } ∧
      (∀ k : Fin 16, s.entry k = none → u.entry k = none) ∧
      ∀ (k : Fin 16) (e : ListenEntry), s.entry k = some e →
        (e.source ≠ n → u.entry k = some e) ∧
        ((∀ v, (e.item, v) ∉ es) → u.entry k = some e) ∧
        ∀ v, e.source = n → (e.item, v) ∈ es → u.entry k = some (
          if v ≠ 0x80000000#32 then { e with value := v, state := .fresh, age := some 0 }
          else if e.state = .fresh then { e with state := .stale, age := none } else e) := by
  obtain ⟨x, hx, each⟩ := takePublish_untold h hn n
  refine ⟨_, hx, rfl, fun k unused => ?_, fun k e used => ?_⟩
  · rw [each, unused]
    rfl
  · rw [each, used, Option.map_some]
    exact ⟨fun other => congrArg _ (mirrored_other other es), fun absent => congrArg _ (mirrored_absent absent n),
      fun v source given => congrArg _ (mirrored_given hn source given)⟩

theorem exec_frameDelivered_publish {s : State} {f : HeldFrame} (verdict : s.link.state = .verdict)
    (waiting : ∀ g ∈ s.link.queue, g.contending = false) (held : s.link.rxHeld = some f)
    (publish : f.claim.toNat / 64 = 3) (other : claimStation f.claim ≠ s.link.own)
    (present : (s.link.present (claimStation f.claim)).isSome = true) :
    exec .frameDelivered s = .next (takePublish (claimStation f.claim) f.payload
      (s.modLink fun l => (slotDelivered l).setRoster (claimStation f.claim) (some 1000))) := by
  have heard := stationHeard_present (s := s.modLink slotDelivered) present
  rw [exec_frameDelivered_received verdict waiting held, handOver_publish publish,
    heardFrom_other (s := s.modLink slotDelivered) other, heard]
  rfl

/-! ## The age timer (R35) -/

theorem exec_ageTimerExpiry_used {k : Fin 16} {s : State} {e : ListenEntry} (h : s.entry k = some e) :
    exec (.ageTimerExpiry k) s = .next (if limitReached e then goStale k e 1 s else s) := by
  rw [show exec (.ageTimerExpiry k) s = execAgeTimerExpiry k s from rfl, execAgeTimerExpiry, h]

theorem exec_ageTimerExpiry_not_fresh {k : Fin 16} {s : State} (h : ∀ e, s.entry k = some e → e.state ≠ .fresh) :
    exec (.ageTimerExpiry k) s = .next s := by
  cases hk : s.entry k with
  | none => rw [show exec (.ageTimerExpiry k) s = execAgeTimerExpiry k s from rfl, execAgeTimerExpiry, hk]
  | some e =>
    rw [exec_ageTimerExpiry_used hk, if_neg fun reached => h e hk ((limitReached_eq_true e).1 reached).1]

/-- Settles O28: one item at its entry, several items entry by entry, and the age timer. -/
theorem mirrorsFollowFrames : Obligations.MirrorsFollowFrames := by
  refine ⟨fun s f verdict waiting held publish other present unwatched => ?_, fun k s => ⟨fun e a used fresh age =>
    ⟨fun reached => ?_, fun ahead => ?_⟩, exec_ageTimerExpiry_not_fresh⟩⟩
  · have taken := exec_frameDelivered_publish verdict waiting held publish other present
    refine ⟨fun k e v payload used source alone => ?_, fun es payload => ⟨fun doubled => ?_, fun distinct masked => ?_⟩,
      fun ragged => ?_⟩
    · obtain ⟨value, fresh, old⟩ := takePublish_item (v := v)
        (s := s.modLink fun l => (slotDelivered l).setRoster (claimStation f.claim) (some 1000)) unwatched used source alone
      rw [payload] at taken
      exact ⟨fun hv => taken.trans (congrArg _ (value hv)), fun hv hf => taken.trans (congrArg _ (fresh hv hf)),
        fun hv ho => taken.trans (congrArg _ (old hv ho))⟩
    · rw [taken, payload, takePublish_doubled doubled]
      rfl
    · obtain ⟨u, hu, rest⟩ := takePublish_items
        (s := s.modLink fun l => (slotDelivered l).setRoster (claimStation f.claim) (some 1000))
        ⟨masked, unwatched⟩ distinct (claimStation f.claim)
      exact ⟨u, taken.trans (by rw [payload, hu]), rest⟩
    · rw [taken, takePublish_ragged ragged]
      rfl
  · rw [exec_ageTimerExpiry_used used, if_pos ((limitReached_eq_true e).2 ⟨fresh, a, age, reached⟩)]
    rfl
  · rw [exec_ageTimerExpiry_used used, if_neg]
    rw [limitReached_eq_true]
    rintro ⟨-, b, hb, reached⟩
    rw [age, Option.some.injEq] at hb
    omega

end Sys2Proof.Machine
end

section
/-! PROOFS. The cue unit: staging, masks and listings, cues sent and taken (R39 to R57). -/

namespace Sys2Proof.Machine

/-! ## Staging (R42 to R44) -/

theorem channelOf_ofNat (c : Fin 4) : channelOf (BitVec.ofNat 8 c.val) = some c := by
  have hc : (BitVec.ofNat 8 c.val).toNat = c.val := by
    rw [BitVec.toNat_ofNat]
    omega
  simp [channelOf, hc]

section Stage

variable {cue : Byte} {a : CueAction} {s : State}

theorem placeEntry_new {e : CueEntry} {t : List CueEntry} (h : ∀ y ∈ t, sameSlot e y = false) (hroom : t.length < 16) :
    placeEntry e t = some (t ++ [e], t.length + 1) := by
  unfold placeEntry
  rw [List.findIdx?_eq_none_iff.2 h]
  exact if_pos hroom

theorem placeEntry_full {e : CueEntry} {t : List CueEntry} (h : ∀ y ∈ t, sameSlot e y = false) (hfull : 16 ≤ t.length) :
    placeEntry e t = none := by
  unfold placeEntry
  rw [List.findIdx?_eq_none_iff.2 h]
  exact if_neg (by omega)

theorem placeEntry_found {e y : CueEntry} {pre post : List CueEntry} (h : sameSlot e y = true)
    (hpre : ∀ z ∈ pre, sameSlot e z = false) :
    placeEntry e (pre ++ y :: post) = some (pre ++ e :: post, pre.length + 1) := by
  have first : (pre ++ y :: post).findIdx? (sameSlot e) = some pre.length := by
    rw [List.findIdx?_append, List.findIdx?_eq_none_iff.2 hpre, List.findIdx?_cons, h]
    simp
  unfold placeEntry
  rw [first]
  simp

theorem sameSlot_eq_false {e x : CueEntry} (h : ¬(x.cue = e.cue ∧ x.action.target = e.action.target)) :
    sameSlot e x = false :=
  Bool.eq_false_iff.2 fun hs => h ((sameSlot_eq_true e x).1 hs)

theorem stage_placed {keep limited : Bool} {t : List CueEntry} {n : Nat}
    (h : placeEntry { cue := cue.toNat, action := a, keep := keep } s.cue.table = some (t, n)) (r : ReqCtx) :
    stage r cue keep a limited s = answer r (okOr limited) [toByte n, toByte t.length] (s.withTable t) := by
  unfold stage
  rw [h]

theorem stage_refused {keep : Bool} (h : placeEntry { cue := cue.toNat, action := a, keep := keep } s.cue.table = none)
    (r : ReqCtx) (limited : Bool) : stage r cue keep a limited s = answer r .tableFull [] s := by
  unfold stage
  rw [h]

/-- What staging answers in each state of the table. -/
theorem stage_cases (h : ReqCtx) (cue : Byte) (keep : Bool) (a : CueAction) (s : State) :
    let e : CueEntry := { cue := cue.toNat, action := a, keep := keep }
    let same (y : CueEntry) : Prop := y.cue = cue.toNat ∧ y.action.target = a.target
    ((∀ y ∈ s.cue.table, ¬ same y) → s.cue.table.length < 16 → stage h cue keep a false s =
      answer h .ok [toByte (s.cue.table.length + 1), toByte (s.cue.table.length + 1)] (s.withTable (s.cue.table ++ [e]))) ∧
    ((∀ y ∈ s.cue.table, ¬ same y) → 16 ≤ s.cue.table.length → stage h cue keep a false s = answer h .tableFull [] s) ∧
    (∀ pre post y, s.cue.table = pre ++ y :: post → same y → (∀ z ∈ pre, ¬ same z) → stage h cue keep a false s =
      answer h .ok [toByte (pre.length + 1), toByte s.cue.table.length] (s.withTable (pre ++ e :: post))) := by
  intro e same
  refine ⟨fun none_same room => ?_, fun none_same full => ?_, fun pre post y split hy hpre => ?_⟩
  · have placed := placeEntry_new (e := e) (fun y hy => sameSlot_eq_false (none_same y hy)) room
    rw [stage_placed placed, List.length_append]
    rfl
  · exact stage_refused (placeEntry_full (e := e) (fun y hy => sameSlot_eq_false (none_same y hy)) full) h false
  · have placed := placeEntry_found (e := e) (post := post) ((sameSlot_eq_true e y).2 hy)
      fun z hz => sameSlot_eq_false (hpre z hz)
    rw [stage_placed (split ▸ placed), split, List.length_append, List.length_append]
    rfl

end Stage

/-- A cue number 1 to 15 passes the range check and asks for staging. -/
theorem cueChoice {α : Sort _} {cue : Byte} (h1 : 1 ≤ cue.toNat) (h15 : cue.toNat ≤ 15) (bad now staged : α) :
    (if 15 < cue.toNat then bad else if cue = 0 then now else staged) = staged := by
  rw [if_neg (by omega), if_neg]
  rintro rfl
  exact absurd h1 (by decide)

theorem doSetMotor_staged {cue mode : Byte} {value : Word} {sp : MotorSetpoint} (h1 : 1 ≤ cue.toNat)
    (h15 : cue.toNat ≤ 15) (hsp : setpointOf mode value = some sp) (hfree : ∀ vmax, clampSetpoint vmax sp = (sp, false))
    (h : ReqCtx) (c : Fin 4) (keep : Bool) (s : State) :
    doSetMotor h (BitVec.ofNat 8 c.val) mode value cue keep s = stage h cue keep (.motor c sp) false s := by
  simp only [doSetMotor, channelOf_ofNat, hsp, cueChoice h1 h15, hfree]

/-- Settles O29: each request stages its action, and staging has three cases. -/
theorem stagingPlacesEntry : Obligations.StagingPlacesEntry := by
  unfold Obligations.StagingPlacesEntry
  intro h cue keep c value s h1 h15 b x hx i a e same
  have staged : exec i s = .next (stage h cue keep a false s) := by
    simp only [List.mem_cons, List.not_mem_nil, or_false] at hx
    rcases hx with rfl | rfl | rfl | rfl | rfl | rfl | rfl | rfl | rfl
    · exact congrArg _ (cueChoice h1 h15 ..)
    · exact congrArg _ (cueChoice h1 h15 ..)
    · exact congrArg _ (cueChoice h1 h15 ..)
    · exact congrArg _ (cueChoice h1 h15 ..)
    · exact congrArg _ (cueChoice h1 h15 ..)
    · exact congrArg _ (doSetMotor_staged h1 h15 rfl (fun _ => rfl) h c keep s)
    · exact congrArg _ (doSetMotor_staged h1 h15 rfl (fun _ => rfl) h c keep s)
    · exact congrArg _ (doSetMotor_staged h1 h15 rfl (fun _ => rfl) h c keep s)
    · exact congrArg _ (doSetMotor_staged h1 h15 rfl (fun _ => rfl) h c keep s)
  rw [staged]
  obtain ⟨fresh, full, found⟩ := stage_cases h cue keep a s
  exact ⟨fun hn hr => congrArg _ (fresh hn hr), fun hn hf => congrArg _ (full hn hf),
    fun pre post y hs hy hp => congrArg _ (found pre post y hs hy hp)⟩

/-! ## SEND_CUE (R49) -/

theorem claim_cue (own : BitVec 4) (h : ReqCtx) :
    claimOf (FrameOwner.cueRequest h).classBits.1 own (FrameOwner.cueRequest h).classBits.2 =
      BitVec.ofNat 8 (64 + 4 * own.toNat) := by
  show claimOf 1 own 0 = _
  revert own
  decide

theorem doSendCue_standalone {cue : Byte} {s : State} (h1 : 1 ≤ cue.toNat) (h15 : cue.toNat ≤ 15)
    (alone : s.standalone = true) (h : ReqCtx) (mask : Byte) :
    doSendCue h mask cue s = answer h .ok [] (takeCueFrame [mask, cue] s) := by
  unfold doSendCue
  rw [if_neg (by omega), if_pos alone]

theorem doSendCue_offered {cue mask : Byte} {h : ReqCtx} {s t : State} {taken : Bool} (h1 : 1 ≤ cue.toNat)
    (h15 : cue.toNat ≤ 15) (linked : s.standalone = false) (offered : offer (.cueRequest h) [mask, cue] s = (t, taken)) :
    doSendCue h mask cue s = if taken then t else answer h .linkBusy [] t := by
  unfold doSendCue
  rw [if_neg (by omega), if_neg (by simp [linked]), offered]

/-- Settles O33, by the cue number, the station and the queue. -/
theorem sendCueOffersFrame : Obligations.SendCueOffersFrame := by
  intro h mask cue s
  have sent {t : State} (ht : doSendCue h mask cue s = t) : exec (.sendCue h mask cue) s = .next t := congrArg _ ht
  refine ⟨fun bad => sent (if_pos bad), fun h1 h15 => ⟨fun alone meets => sent ?_, fun alone misses => sent ?_,
    fun linked short busy => sent ?_, fun linked full none_publish => sent ?_⟩⟩
  · rw [doSendCue_standalone h1 h15 alone, takeCueFrame_taken ⟨h1, h15, meets⟩]
  · rw [doSendCue_standalone h1 h15 alone, takeCueFrame_passed fun taken => misses taken.2.2]
  · have queued := enqueue_appends (l := s.link) (f := newFrame s.link.own (.cueRequest h) [mask, cue])
      (fun hp => nomatch hp) short
    refine (doSendCue_offered h1 h15 linked (offer_quiet linked (by exact busy) queued)).trans ?_
    rw [if_pos rfl, newFrame, claim_cue]
  · have refused := enqueue_full (f := newFrame s.link.own (.cueRequest h) [mask, cue]) rfl none_publish full
    exact (doSendCue_offered h1 h15 linked (offer_refused linked refused)).trans (if_neg Bool.false_ne_true)

/-! ## Snapshots and rearming (R45, R55, R56) -/

theorem forEach_modPort (f : Port → Port) (s : State) :
    forEach all4 (fun p t => t.modPort p f) s = { s with ports := Vector.ofFn fun p => f (s.port p) } := by
  have h : (forEach all4 (fun p t => t.modPort p f) s).ports = Vector.ofFn fun p => f (s.port p) := by
    ext i hi
    have hp (j : Fin 4) : (forEach all4 (fun p t => t.modPort p f) s).port j = f (s.port j) := by
      fin_cases j <;> simp [forEach, all4, port_modPort]
    simpa [State.port, Vector.get_eq_getElem] using hp ⟨i, hi⟩
  rw [← h]
  rfl

theorem takeSnapshots_eq (s : State) : takeSnapshots s = { s with
    ports := Vector.ofFn fun p => { s.port p with snapshot := snapshotOf (s.port p).reading s.cue.clock } } :=
  forEach_modPort (fun x => { x with snapshot := snapshotOf x.reading s.cue.clock }) s

theorem setWatch_watch (k : Fin 8) (s : State) : s.setWatch k (s.watch k) = s := by
  have same : s.watches.set k.val (s.watch k) k.isLt = s.watches := Vector.set_getElem_self ..
  rw [State.setWatch, same]

/-- A function applied to the watches in turn. -/
theorem watch_forEach_map {l : List (Fin 8)} (hl : l.Nodup) (g : Watch → Watch) (s : State) (k : Fin 8) :
    (forEach l (fun j t => t.setWatch j ((t.watch j).map g)) s).watch k =
      if k ∈ l then (s.watch k).map g else s.watch k := by
  induction l generalizing s with
  | nil => rfl
  | cons j l ih =>
    obtain ⟨fresh, rest⟩ := List.nodup_cons.1 hl
    rw [forEach_cons, ih rest, watch_setWatch]
    by_cases hk : k = j
    · rw [hk, if_neg fresh, if_pos rfl, if_pos List.mem_cons_self]
    · simp only [List.mem_cons, hk, if_false, false_or]

/-- A FIRED watch whose last evaluation was false is ARMED again (R56). -/
def rearmed (w : Watch) : Watch := if w.state = .fired ∧ w.lastEval = false then { w with state := .armed } else w

theorem rearmed_state_ne {w : Watch} (h : w.state ≠ .tripped) : (rearmed w).state ≠ .tripped := by
  unfold rearmed
  split
  · exact nofun
  · exact h

theorem rearmIf_none {k : Fin 8} {s : State} (h : s.watch k = none) : rearmIf k s = s := by
  unfold rearmIf
  rw [h]

theorem rearmIf_some {k : Fin 8} {w : Watch} {s : State} (h : s.watch k = some w) :
    rearmIf k s = if w.acted && !w.lastEval then rearmWatch k w s else s := by
  unfold rearmIf
  rw [h]

theorem rearmIf_untripped {k : Fin 8} {s : State} (h : ∀ w, s.watch k = some w → w.state ≠ .tripped) :
    rearmIf k s = s.setWatch k ((s.watch k).map rearmed) := by
  cases hk : s.watch k with
  | none => rw [rearmIf_none hk, Option.map_none, ← hk, setWatch_watch]
  | some w =>
    have untripped := h w hk
    rw [rearmIf_some hk, Option.map_some, acted_iff]
    by_cases takes : w.state = .fired ∧ w.lastEval = false
    · obtain ⟨fired, evaluated⟩ := takes
      have armed : rearmed w = { w with state := .armed, lastEval := false } := by
        rw [rearmed, if_pos ⟨fired, evaluated⟩, evaluated]
      rw [if_pos (by simp [fired, evaluated]), rearmWatch, if_neg untripped, armed]
    · have passed : ¬ (decide (w.state ≠ .armed) && !w.lastEval) = true := by
        cases hs : w.state <;> simp_all
      rw [if_neg passed, rearmed, if_neg takes, ← hk, setWatch_watch]

theorem rearmAll_untripped {s : State} (h : ∀ k w, s.watch k = some w → w.state ≠ .tripped) :
    ∃ x, rearmAll s = { s with watches := x } ∧ ∀ k, ({ s with watches := x } : State).watch k = (s.watch k).map rearmed := by
  have steps : rearmAll s = forEach all8 (fun j t => t.setWatch j ((t.watch j).map rearmed)) s := by
    refine forEach_congr (P := fun t => ∀ k w, t.watch k = some w → w.state ≠ .tripped)
      (fun j t ht => ⟨rearmIf_untripped (ht j), fun k w hk => ?_⟩) h
    rw [watch_setWatch] at hk
    split at hk
    · obtain ⟨v, hv, rfl⟩ := Option.map_eq_some_iff.1 hk
      exact rearmed_state_ne (ht j v hv)
    · exact ht k w hk
  obtain ⟨x, hx⟩ := forEach_induct (P := fun t => ∃ x, t = { s with watches := x }) all8
    (f := fun j t => t.setWatch j ((t.watch j).map rearmed)) (by
      rintro j _ _ ⟨x, rfl⟩
      exact ⟨_, rfl⟩) ⟨s.watches, rfl⟩
  refine ⟨x, steps.trans hx, fun k => ?_⟩
  rw [← hx, watch_forEach_map nodup_all8, if_pos (mem_all8 k)]

/-- Settles O30: the snapshots port by port, the rearming watch by watch. -/
theorem immediateCueActions : Obligations.ImmediateCueActions := by
  refine ⟨fun h keep s => ⟨takeSnapshots s, rfl, ?_, fun p => ?_⟩, fun h keep s untripped => ?_⟩
  · rw [takeSnapshots_eq]
  · rw [takeSnapshots_eq]
    simp [State.port, snapshotOf]
  · obtain ⟨x, hx, each⟩ := rearmAll_untripped untripped
    have counted : rearmableCount s = all8.countP fun k => rearmable (s.watch k) := List.countP_eq_length_filter.symm
    refine ⟨rearmAll s, ?_, by rw [hx], fun k => ?_⟩
    · rw [← counted]
      rfl
    · rw [hx, each]
      cases s.watch k with
      | none => rfl
      | some w => exact apply_ite some ..

/-! ## A cue leaves the cue unit to itself (R51)

What an entry's action may reach, down to the fault unit, leaves the table, the membership and the clock. -/

/-- What a condition told to the fault unit leaves: it halts channels at most (R71, R147, R149). -/
structure Told (s t : State) : Prop where
  cue : t.cue = s.cue
  watches : t.watches = s.watches
  ports : t.ports = s.ports
  chan : ∀ c, t.chan c = s.chan c ∨ ∃ st, t.chan c = { enterStop st (s.chan c) with haltFlag := true }

theorem Told.of_eq {s t : State} (cue : t.cue = s.cue) (watches : t.watches = s.watches) (ports : t.ports = s.ports)
    (chans : t.chans = s.chans) : Told s t := ⟨cue, watches, ports, fun c => .inl (chan_of_chans chans c)⟩

theorem Told.refl (s : State) : Told s s := .of_eq rfl rfl rfl rfl

theorem Told.trans {s t u : State} (h : Told s t) (k : Told t u) : Told s u where
  cue := k.cue.trans h.cue
  watches := k.watches.trans h.watches
  ports := k.ports.trans h.ports
  chan c := by
    rcases k.chan c with hk | ⟨st, hk⟩
    · rw [hk]
      exact h.chan c
    · rw [hk]
      refine .inr ⟨st, ?_⟩
      rcases h.chan c with hc | ⟨st', hc⟩ <;> rw [hc]
      rfl

theorem setSource_told (k : Fin 8) (f : FaultSource) (s : State) : Told s (s.setSource k f) := .of_eq rfl rfl rfl rfl

theorem haltStation_told (st : Style) (s : State) : Told s (haltStation st s) where
  cue := by rw [haltStation_eq]
  watches := by rw [haltStation_eq]
  ports := by rw [haltStation_eq]
  chan c := .inr ⟨st, chan_haltStation st s c⟩

theorem sourceEvent_told (e : EventKind) (k : Fin 8) (a : Word) (s : State) : Told s (sourceEvent e k a s) := by
  unfold sourceEvent
  split
  · exact .refl s
  · exact .of_eq (by simp) (by simp) (by simp) (by simp)

theorem react_told (b : Byte) (c : Option (Fin 4)) (r : Reaction) (st : Style) (g : HaltGroups) (s : State) :
    Told s (react b c r st g s) := by
  unfold react
  split
  · exact .refl s
  · exact .refl s
  · split
    · rename_i d
      refine ⟨rfl, rfl, rfl, fun c => ?_⟩
      rw [haltChannel, chan_modChan]
      split
      · rename_i hc
        exact .inr ⟨st, by rw [hc]⟩
      · exact .inl rfl
    · exact .refl s
  · exact haltStation_told st s
  · exact (haltStation_told st s).trans (.of_eq (offer_cue ..) (offer_watches ..) (offer_ports ..) (offer_chans ..))

theorem latch_told (k : Fin 8) (s : State) : Told s (latch k s) := by
  refine Told.trans ?_ (react_told ..)
  exact (setSource_told ..).trans (sourceEvent_told ..)

theorem conditionBegin_told (k : Fin 8) (s : State) : Told s (conditionBegin k s) := by
  unfold conditionBegin
  simp only
  split
  · split
    · refine Told.trans ?_ (sourceEvent_told ..)
      exact (setSource_told ..).trans (setSource_told ..)
    · refine Told.trans ?_ (latch_told ..)
      exact setSource_told ..
  · exact setSource_told ..

theorem conditionEnd_told (k : Fin 8) (s : State) : Told s (conditionEnd k s) := by
  unfold conditionEnd
  simp only
  split
  · refine Told.trans ?_ (sourceEvent_told ..)
    exact setSource_told ..
  · exact setSource_told ..

theorem tellCondition_told (k : Fin 8) (b : Bool) (s : State) : Told s (tellCondition k b s) := by
  unfold tellCondition
  split
  · exact conditionBegin_told k s
  · exact conditionEnd_told k s
  · exact .refl s

theorem releaseChannel_cue (k : Fin 8) (c : Fin 4) (s : State) : (releaseChannel k c s).cue = s.cue := by
  unfold releaseChannel
  simp only
  split <;> rfl

theorem releaseHolds_cue (k : Fin 8) (a : WatchAction) (s : State) : (releaseHolds k a s).cue = s.cue := by
  unfold releaseHolds
  split
  · exact forEach_frame State.cue _ (releaseChannel_cue k) s
  · exact forEach_frame State.cue _ (releaseChannel_cue k) s
  · split
    · rfl
    · exact (tellCondition_told ..).cue
  · rfl

theorem rearmIf_cue (k : Fin 8) (s : State) : (rearmIf k s).cue = s.cue := by
  cases hk : s.watch k with
  | none => rw [rearmIf_none hk]
  | some w =>
    rw [rearmIf_some hk]
    split
    · unfold rearmWatch
      simp only
      split
      · rw [releaseHolds_cue, setWatch_cue]
      · rfl
    · rfl

theorem startAction_cue (s : State) : (startAction s).cue = s.cue := by
  unfold startAction
  split
  · unfold takeNote
    simp only
    split <;> simp
  · simp [soundDone]
  · rfl

theorem applyAction_cue {a : CueAction} {s t : State} (h : applyAction a s = .ok t) : t.cue = s.cue := by
  unfold applyAction at h
  split at h
  · split at h
    · cases h
    · split at h
      · split at h
        · cases h
        · cases h; rfl
      · cases h; rfl
  · split at h
    · cases h
    · cases h; exact startAction_cue s
  · split at h
    · cases h
    · cases h; rfl
  · cases h; rw [takeSnapshots_eq]
  · cases h; exact forEach_frame State.cue all8 rearmIf_cue s

/-! ## Entries applied one by one (R51, R52) -/

section Apply

variable {n : Nat} {e : CueEntry} {s : State}

theorem applyEntries_other (h : e.cue ≠ n) (es : List CueEntry) : applyEntries n (e :: es) s = applyEntries n es s := by
  rw [applyEntries, if_neg h]

theorem applyEntries_applied {t : State} (h : e.cue = n) (ht : applyAction e.action s = .ok t) (es : List CueEntry) :
    applyEntries n (e :: es) s = ((applyEntries n es t).1, (applyEntries n es t).2 + 1) := by
  rw [applyEntries, if_pos h, ht]

theorem applyEntries_refused {why : Result} (h : e.cue = n) (hw : applyAction e.action s = .error why)
    (es : List CueEntry) : applyEntries n (e :: es) s =
      applyEntries n es (raiseEvent .cueEntryRefused (toByte n) (refusalArg e.action why) s) := by
  rw [applyEntries, if_pos h, hw]

theorem refusalArg_eq (a : CueAction) (r : Result) :
    refusalArg a r = BitVec.ofNat 32 (a.target * 65536 + r.code.toNat) := by
  rw [← toWord_natCast]
  rfl

end Apply

theorem applyEntries_cue (n : Nat) (es : List CueEntry) (s : State) : (applyEntries n es s).1.cue = s.cue := by
  induction es generalizing s with
  | nil => rfl
  | cons e es ih =>
    by_cases h : e.cue = n
    · cases ha : applyAction e.action s with
      | ok t =>
        rw [applyEntries_applied h ha]
        exact (ih t).trans (applyAction_cue ha)
      | error why => rw [applyEntries_refused h ha, ih, raiseEvent_cue]
    · rw [applyEntries_other h, ih]

theorem applyEntries_count_le (n : Nat) (es : List CueEntry) (s : State) :
    (applyEntries n es s).2 ≤ es.countP fun e => e.cue = n := by
  induction es generalizing s with
  | nil => exact Nat.le_refl 0
  | cons e es ih =>
    rw [List.countP_cons]
    by_cases h : e.cue = n
    · rw [if_pos (by simpa using h)]
      cases ha : applyAction e.action s with
      | ok t =>
        rw [applyEntries_applied h ha]
        exact Nat.succ_le_succ (ih t)
      | error why =>
        rw [applyEntries_refused h ha]
        exact Nat.le_succ_of_le (ih _)
    · rw [applyEntries_other h]
      exact Nat.le_add_right_of_le (ih s)

theorem applyEntries_none {n : Nat} {es : List CueEntry} (h : ∀ e ∈ es, e.cue ≠ n) (s : State) :
    applyEntries n es s = (s, 0) := by
  induction es with
  | nil => rfl
  | cons e es ih =>
    rw [applyEntries_other (h e List.mem_cons_self), ih fun x hx => h x (List.mem_cons_of_mem e hx)]

theorem takeCue_eq (n : Nat) (s : State) : takeCue n s =
    raiseEvent .cueTaken (BitVec.ofNat 8 n) (BitVec.ofNat 32 (applyEntries n s.cue.table s).2)
      { (applyEntries n s.cue.table s).1 with
        cue := { s.cue with table := s.cue.table.filter fun e => e.cue ≠ n ∨ e.keep } } := by
  have kept : keptEntries n s.cue.table = s.cue.table.filter fun e => e.cue ≠ n ∨ e.keep := by
    refine List.filter_congr fun e _ => ?_
    simp [Bool.decide_or, ← Bool.beq_eq_decide_eq, bne]
  simp only [takeCue, State.withTable, applyEntries_cue, kept, toWord_natCast]
  rfl

/-! ## The action of each target (R53, R54) -/

section Action

variable {s : State}

theorem applyAction_sound_halted {a : CueAction} (ha : a = .startSound ∨ a = .stopSound .now ∨ a = .stopSound .atEnd)
    (h : s.fault.halted = true) : applyAction a s = .error .faulted ∧ a.target = 4 := by
  rcases ha with rfl | rfl | rfl <;> exact ⟨if_pos h, rfl⟩

theorem applyAction_startSound (h : s.fault.halted = false) : applyAction .startSound s = .ok (startAction s) :=
  if_neg (by simp [h])

theorem stopAction_atEnd (x : Sound) :
    stopAction .atEnd x = if x.player = .stopped then x else { x with stopAtEnd := true } := by
  unfold stopAction
  cases x.player <;> rfl

theorem applyAction_stopAtEnd (h : s.fault.halted = false) : applyAction (.stopSound .atEnd) s =
    .ok (s.withSound (if s.sound.player = .stopped then s.sound else { s.sound with stopAtEnd := true })) := by
  rw [← stopAction_atEnd]
  exact if_neg (by simp [h])

variable {c : Fin 4} {sp : MotorSetpoint}

theorem channelCheck_halted (h : s.fault.halted = true ∨ (s.chan c).haltFlag = true) :
    channelCheck c sp s = some .faulted := by
  unfold channelCheck
  split
  · rfl
  · exact if_pos (h.resolve_left ‹_›)

theorem channelCheck_tripped (h1 : s.fault.halted = false) (h2 : (s.chan c).haltFlag = false)
    (h3 : (s.chan c).tripHolders ≠ 0) : channelCheck c sp s = some .tripped := by
  rw [channelCheck, if_neg (by simp [h1]), if_neg (by simp [h2]), if_pos h3]

theorem channelCheck_noEncoder (h1 : s.fault.halted = false) (h2 : (s.chan c).haltFlag = false)
    (h3 : (s.chan c).tripHolders = 0) (h4 : (s.chan c).kind = .plain) (h5 : sp.needsEncoder = true) :
    channelCheck c sp s = some .noEncoder := by
  rw [channelCheck, if_neg (by simp [h1]), if_neg (by simp [h2]), if_neg (by simp [h3]), if_pos ⟨h4, h5⟩]

theorem channelCheck_none (h1 : s.fault.halted = false) (h2 : (s.chan c).haltFlag = false)
    (h3 : (s.chan c).tripHolders = 0) (h4 : (s.chan c).kind = .encoded ∨ sp.needsEncoder = false) :
    channelCheck c sp s = none := by
  rw [channelCheck, if_neg (by simp [h1]), if_neg (by simp [h2]), if_neg (by simp [h3]), if_neg]
  rintro ⟨plain, needs⟩
  rcases h4 with h | h <;> simp_all

theorem applyAction_motor_refused {why : Result} (h : channelCheck c sp s = some why) :
    applyAction (.motor c sp) s = .error why := by
  simp only [applyAction, h]

theorem applyAction_motor (h : channelCheck c sp s = none)
    (hm : ∀ f k, sp = .follow f → f.source = .mirror k → (s.entry k).isSome = true) :
    applyAction (.motor c sp) s = .ok (s.setChan c (enterSetpoint sp (s.chan c))) := by
  simp only [applyAction, h]
  split
  · rename_i r
    have used : mirrorUnused r.source s = false := by
      unfold mirrorUnused
      split
      · rename_i k hk
        simpa using hm r k rfl hk
      · rfl
    rw [if_neg (by simp [used])]
    rfl
  · rfl

end Action

/-- Settles O34: what a taken cue does, and each entry by its action. -/
theorem takenCueAppliesEntries : Obligations.TakenCueAppliesEntries := by
  unfold Obligations.TakenCueAppliesEntries
  refine ⟨fun n s => ⟨takeCue_eq n s, applyEntries_count_le n _ s, fun none_of_n => applyEntries_none none_of_n s⟩,
    fun n e es s => ?_⟩
  intro applied refused
  have happens {a : CueAction} {t : State} (he : e.cue = n) (ha : e.action = a) (ht : applyAction a s = .ok t) :
      applyEntries n (e :: es) s = applied t := applyEntries_applied he (ha ▸ ht) es
  have refuses {a : CueAction} {why : Result} (he : e.cue = n) (ha : e.action = a) (hw : applyAction a s = .error why) :
      applyEntries n (e :: es) s = refused (BitVec.ofNat 32 (a.target * 65536 + why.code.toNat)) := by
    rw [applyEntries_refused he (ha ▸ hw), refusalArg_eq, ha]
    rfl
  refine ⟨rfl, fun other => applyEntries_other other es, fun he sound halted => ?_,
    fun he ha running => happens he ha (applyAction_startSound running),
    fun he ha running => happens he ha (applyAction_stopAtEnd running), fun he ha => happens he ha rfl,
    fun he ha => happens he ha rfl, fun c sp he ha => ⟨fun halted => ?_, fun running free held => ?_,
    fun running free unheld encoded used => ?_⟩⟩
  · obtain ⟨faulted, target⟩ := applyAction_sound_halted sound halted
    rw [refuses he rfl faulted, target]
    rfl
  · rw [refuses he ha (applyAction_motor_refused (channelCheck_halted halted)),
      show Result.faulted.code.toNat = 9 from rfl, CueAction.target]
  · rw [refuses he ha (applyAction_motor_refused (channelCheck_tripped running free held)),
      show Result.tripped.code.toNat = 10 from rfl, CueAction.target]
  · exact happens he ha (applyAction_motor (channelCheck_none running free unheld (.inl encoded)) used)

end Sys2Proof.Machine
end

section
/-! PROOFS. Masks, listings and the status sections (R39, R47, R165, R169, R175). -/

namespace Sys2Proof.Machine

/-! ## The masks (R39, R165) -/

theorem getLsbD_eventMaskAll (i : Fin 32) : eventMaskAll.getLsbD i.val = decide (i.val < 29) := by
  revert i
  decide

/-! ## LIST_CUES (R47) -/

theorem listEntries_flatten (filter pos : Nat) (t : List CueEntry) : (listEntries filter pos t).flatten =
    (t.zipIdx pos).flatMap fun (e, i) => if filter = 0 ∨ e.cue = filter then entryBytes i e else [] := by
  induction t generalizing pos with
  | nil => rfl
  | cons e es ih =>
    rw [List.zipIdx_cons, List.flatMap_cons, ← ih, listEntries]
    by_cases h : filter = 0 ∨ e.cue = filter
    · simp only [if_pos h, List.flatten_cons]
    · simp only [if_neg h, List.nil_append]

theorem length_flatten_listEntries (filter pos : Nat) (t : List CueEntry) :
    (listEntries filter pos t).flatten.length = 4 * (listEntries filter pos t).length := by
  induction t generalizing pos with
  | nil => rfl
  | cons e es ih =>
    rw [listEntries]
    split
    · have four : (entryBytes pos e).length = 4 := rfl
      rw [List.flatten_cons, List.length_append, ih, four, List.length_cons]
      omega
    · exact ih _

/-! ## READ_STATUS (R175) -/

theorem doReadStatus_section {sect : Byte} {d : List Byte} {s : State} (h : statusData sect s = some d) (r : ReqCtx) :
    doReadStatus r sect s = answer r .ok d s := by
  unfold doReadStatus
  rw [h]

theorem statusData_none {sect : Byte} (h : 5 < sect.toNat) (s : State) : statusData sect s = none := by
  unfold statusData
  split
  iterate 6 · omega
  · rfl

theorem rosterMask_eq (l : Link) : rosterMask l = Nat.ofBits fun n : Fin 16 =>
    decide (n.val ≠ 0 ∧ n.val ≠ 15 ∧ n.val ≠ l.own.toNat) && (l.roster.get n).isSome := by
  rw [← sum_bits, rosterMask]
  refine congrArg List.sum (List.map_congr_left fun n _ => ?_)
  by_cases h : n.val = 0 ∨ n.val = 15 ∨ n.val = l.own.toNat
  · rw [if_pos h, if_neg]
    simp only [Bool.and_eq_true, decide_eq_true_eq, not_and]
    omega
  · have named : n.val ≠ 0 ∧ n.val ≠ 15 ∧ n.val ≠ l.own.toNat := by omega
    rw [if_neg h, decide_eq_true named, Bool.true_and]

theorem getLsbD_rosterMask (l : Link) (n : BitVec 4) : (BitVec.ofNat 16 (rosterMask l)).getLsbD n.toNat =
    (decide (n ≠ 0 ∧ n ≠ 15 ∧ n ≠ l.own) && (l.present n).isSome) := by
  have named : (n.toNat ≠ 0 ∧ n.toNat ≠ 15 ∧ n.toNat ≠ l.own.toNat) ↔ (n ≠ 0 ∧ n ≠ 15 ∧ n ≠ l.own) := by
    simp only [ne_eq, ← BitVec.toNat_inj]
    rfl
  rw [BitVec.getLsbD_ofNat, rosterMask_eq, Nat.testBit_ofBits_lt _ _ n.isLt, decide_eq_true n.isLt, Bool.true_and]
  simp only [named]
  rfl

theorem holderList_eq (s : State) : holderList s = Nat.ofBits fun c : Fin 4 => decide ((s.chan c).tripHolders ≠ 0) := by
  rw [← sum_bits, holderList]
  simp only [decide_eq_true_eq]
  rfl

theorem portType_eq (x : Port) : portType x = match x.state, x.settled with
    | .analog, .generic => 1
    | .analog, .light => 2
    | .analog, .touch => 3
    | .analog, _ => 0
    | _, _ => (x.descriptor.map fun d => d.typeCode).getD 0 := by
  unfold portType
  cases x.state <;> cases x.descriptor <;> cases x.settled <;> rfl

theorem portRate_eq (x : Port) : portRate x =
    if x.state = .describing ∨ x.state = .switching ∨ x.state = .streaming then
      (match x.fixedRate with
        | none => 0 | some .r2400 => 1 | some .r9600 => 2 | some .r19200 => 3 | some .r57600 => 4 | some .r115200 => 5)
    else 0 := by
  unfold portRate Port.receives
  cases x.state <;> rcases x.fixedRate with _ | (_ | _ | _ | _ | _) <;> rfl

theorem portMode_eq (x : Port) : portMode x = (x.currentMode.map (BitVec.ofNat 8)).getD 0xFF := by
  unfold portMode
  cases x.currentMode <;> rfl


theorem ofFn_all4 {α : Type} (f : Fin 4 → α) : List.ofFn f = all4.map f := List.ofFn_eq_map

theorem ofFn_all8 {α : Type} (f : Fin 8 → α) : List.ofFn f = all8.map f := List.ofFn_eq_map

theorem statusFaults_eq (s : State) : statusFaults s = nat16 (s.supply.window.toList.sum / 16) ++
    [(match s.supply.state with | .normal => 0 | .sag => 1 | .brownout => 2 : Byte)] ++
    halfBytes (BitVec.ofInt 16 s.supply.temperature) ++ [(if s.fault.halted then 1 else 0 : Byte)] ++
    (List.ofFn fun k : Fin 8 => (match (s.source k).state with | .inactive => 0 | .grace => 1 | .latched => 2 : Byte)) ++
    [if s.fault.manual.isSome then 2 else 0] ++
    (match s.fault.remote with | some r => [r.station.setWidth 8, r.cause] | none => [0, 0]) := by
  rw [ofFn_all8]
  rfl

theorem statusMotors_eq (s : State) : statusMotors s = (List.ofFn fun c : Fin 4 =>
    [(match (s.chan c).kind with | .encoded => 0 | .plain => 1), (s.chan c).mode.code,
      (if (s.chan c).haltFlag then 1 else 0 : Byte)] ++
      wordBytes (s.chan c).position ++ [BitVec.ofNat 8 (s.chan c).glitch]).flatten ++ [toByte (holderList s)] := by
  rw [ofFn_all4]
  rfl

theorem statusSensors_eq (s : State) :
    statusSensors s = (List.ofFn fun p : Fin 4 => statusPort (s.port p)).flatten := by
  rw [ofFn_all4]
  rfl

theorem statusSound_eq (s : State) : statusSound s = [s.sound.player.code, BitVec.ofNat 8 s.sound.queue.length,
    BitVec.ofNat 8 s.sound.master] ++ List.ofFn fun k : Fin 8 => (match s.watch k with
      | none => 0
      | some w => match w.state with | .armed => 1 | .fired => 2 | .tripped => 3 : Byte) := by
  rw [ofFn_all8]
  rfl

/-- Settles O32: the two masks, the listing by its filter, and the status section by section. -/
theorem masksAndListings : Obligations.MasksAndListings := by
  unfold Obligations.MasksAndListings
  refine ⟨fun h m e s => ⟨rfl, _, rfl, rfl, fun i => ?_⟩, fun h filter s => ⟨fun bad => congrArg _ (if_pos bad),
    fun good => ⟨(listEntries filter.toNat 1 s.cue.table).flatten, ?_, ?_⟩⟩, fun h sect s => ?_⟩
  · show (e &&& eventMaskAll).getLsbD i.val = _
    rw [BitVec.getLsbD_and, getLsbD_eventMaskAll, Bool.and_comm]
  · have listed : doListCues h filter s = _ := if_neg (by omega)
    rw [length_flatten_listEntries, Nat.mul_div_cancel_left _ (by decide)]
    exact congrArg _ listed
  · rw [listEntries_flatten]
    have zero : filter.toNat = 0 ↔ filter = 0 := by bv_omega
    simp only [zero]
    rfl
  · have read {k : Byte} {d : List Byte} (hd : statusData k s = some d) :
        exec (.readStatus h k) s = .next (answer h .ok d s) := congrArg _ (doReadStatus_section hd h)
    refine ⟨fun bad => ?_, read (congrArg some (statusFaults_eq s)), ⟨_, read rfl, getLsbD_rosterMask s.link⟩,
      ⟨BitVec.ofNat 8 (holderList s), read (congrArg some (statusMotors_eq s)), ?_, fun c => ?_⟩,
      read (congrArg some ?_), read (congrArg some (statusSound_eq s)), read rfl⟩
    · show Host.Outcome.next (doReadStatus h sect s) = _
      rw [doReadStatus, statusData_none bad]
    · rw [BitVec.toNat_ofNat, holderList_eq]
      exact (Nat.mod_le ..).trans_lt (Nat.ofBits_lt_two_pow _)
    · rw [BitVec.getLsbD_ofNat, holderList_eq, Nat.testBit_ofBits_lt _ _ c.isLt, decide_eq_true (by omega), Bool.true_and]
    · rw [statusSensors_eq]
      simp only [statusPort, portType_eq, portMode_eq, portRate_eq]
      rfl

end Sys2Proof.Machine
end

section
/-! PROOFS. The motor requests, the encoder and the PWM generator (R59 to R69, R76, R93 to R95). -/

namespace Sys2Proof.Machine

/-! ## Clamps -/

theorem clampAbs_eq (m : Nat) (x : Int) : clampAbs m x = max (-(m : Int)) (min m x) := by
  unfold clampAbs clampI
  split
  · omega
  · split <;> omega

theorem clampN_eq {lo hi : Nat} (h : lo ≤ hi) (x : Nat) : clampN lo hi x = max lo (min hi x) := by
  unfold clampN
  split
  · omega
  · split <;> omega

theorem toWord_toInt (x : Word) : toWord x.toInt = x := BitVec.ofInt_toInt

/-! ## SET_MOTOR (R60 to R63) -/

section SetMotor

variable {mode : Byte} {value : Word} {sp : MotorSetpoint} {s : State} {c : Fin 4}

theorem exec_setMotor_now (hsp : setpointOf mode value = some sp) (h : ReqCtx) (c : Fin 4) (keep : Bool) (s : State) :
    exec (.setMotor h (BitVec.ofNat 8 c.val) mode value 0 keep) s = .next (setMotorNow h c sp s) := by
  show Host.Outcome.next (doSetMotor h (BitVec.ofNat 8 c.val) mode value 0 keep s) = _
  simp only [doSetMotor, channelOf_ofNat, hsp]
  rfl

theorem exec_setMotor_taken (hsp : setpointOf mode value = some sp) (hc : channelCheck c sp s = none) (h : ReqCtx)
    (keep : Bool) : exec (.setMotor h (BitVec.ofNat 8 c.val) mode value 0 keep) s =
      .next (answer h (okOr (clampSetpoint (s.chan c).params.vmax sp).2) (motorData (enterSetpoint sp (s.chan c)))
        (s.setChan c (enterSetpoint sp (s.chan c)))) := by
  rw [exec_setMotor_now hsp, setMotorNow, hc]
  simp only [chan_modChan_self]
  rfl

theorem exec_setMotor_refused {why : Result} (hsp : setpointOf mode value = some sp)
    (hc : channelCheck c sp s = some why) (h : ReqCtx) (keep : Bool) :
    exec (.setMotor h (BitVec.ofNat 8 c.val) mode value 0 keep) s = .next (answer h why [] s) := by
  rw [exec_setMotor_now hsp, setMotorNow, hc]

theorem exec_setMotor_badArg (hsp : setpointOf mode value = none) (h : ReqCtx) (b cue : Byte) (keep : Bool) (s : State) :
    exec (.setMotor h b mode value cue keep) s = .next (answer h .badArg [] s) := by
  show Host.Outcome.next (doSetMotor h b mode value cue keep s) = _
  unfold doSetMotor
  rw [hsp]
  cases channelOf b <;> rfl

theorem setpointOf_openDrive (h : -1000 ≤ value.toInt ∧ value.toInt ≤ 1000) :
    setpointOf 2 value = some (.openDrive value.toInt) := if_pos h

theorem setpointOf_eq_none_iff (mode : Byte) (value : Word) : setpointOf mode value = none ↔
    5 < mode.toNat ∨ (mode = 2 ∧ (value.toInt < -1000 ∨ 1000 < value.toInt)) := by
  have two : mode = 2 ↔ mode.toNat = 2 := by bv_omega
  rw [two]
  unfold setpointOf
  split
  case h_3 h => simp [h, -not_and, not_and_or]
  case h_7 =>
    simp only [imp_false, true_iff] at *
    omega
  all_goals simp_all

theorem setpointOf_closed (h3 : 3 ≤ mode.toNat) (h5 : mode.toNat ≤ 5) :
    ∃ sp, setpointOf mode value = some sp ∧ sp.needsEncoder = true := by
  obtain h | h | h : mode.toNat = 3 ∨ mode.toNat = 4 ∨ mode.toNat = 5 := by omega
  all_goals
    unfold setpointOf
    rw [h]
    exact ⟨_, rfl, rfl⟩

end SetMotor

theorem motorData_stop (style : Style) (ch : Channel) :
    motorData (enterStop style ch) = style.mode.code :: ([0, 0, 0, 0] ++ wordBytes ch.position) := by
  have discarded : (enterStop style ch).mode.setpoint = 0 := by cases style <;> rfl
  rw [motorData, discarded, wordBytes_zero]
  rfl

theorem motorData_openDrive (value : Word) (ch : Channel) :
    motorData (enterSetpoint (.openDrive value.toInt) ch) = [2] ++ wordBytes value ++ wordBytes ch.position := by
  rw [motorData, enterSetpoint, ChanMode.setpoint, toWord_toInt]
  rfl

/-- Settles O35: the three modes without a loop, and the refusals in their order. -/
theorem setMotorStopsOrRefuses : Obligations.SetMotorStopsOrRefuses := by
  refine ⟨fun h c value keep s running free unheld => ?_, fun h c mode value keep s => ?_⟩
  · have passes {sp : MotorSetpoint} (hsp : sp.needsEncoder = false) : channelCheck c sp s = none :=
      channelCheck_none running free unheld (.inr hsp)
    refine ⟨?_, ?_, fun low high => ?_⟩
    · exact (exec_setMotor_taken (sp := .coast) rfl (passes rfl) h keep).trans (by
        rw [show enterSetpoint .coast (s.chan c) = enterStop .coast (s.chan c) from rfl, motorData_stop]
        rfl)
    · exact (exec_setMotor_taken (sp := .brake) rfl (passes rfl) h keep).trans (by
        rw [show enterSetpoint .brake (s.chan c) = enterStop .brake (s.chan c) from rfl, motorData_stop]
        rfl)
    · rw [exec_setMotor_taken (setpointOf_openDrive ⟨low, high⟩) (passes rfl), motorData_openDrive]
      rfl
  · intro i bad
    have known (good : ¬ bad) : ∃ sp, setpointOf mode value = some sp :=
      Option.ne_none_iff_exists'.1 fun none => good ((setpointOf_eq_none_iff mode value).1 none)
    refine ⟨fun hbad => exec_setMotor_badArg ((setpointOf_eq_none_iff mode value).2 hbad) .., fun good halted => ?_,
      fun good running free held => ?_, fun low high running free unheld plain => ?_⟩
    · obtain ⟨sp, hsp⟩ := known good
      exact exec_setMotor_refused hsp (channelCheck_halted halted) h keep
    · obtain ⟨sp, hsp⟩ := known good
      exact exec_setMotor_refused hsp (channelCheck_tripped running free held) h keep
    · obtain ⟨sp, hsp, needs⟩ := setpointOf_closed (value := value) low high
      exact exec_setMotor_refused hsp (channelCheck_noEncoder running free unheld plain needs) h keep

theorem seedProfile_eq (ch : Channel) : clearMarks (seedProfile ch) =
    match ch.mode with
    | .position _ | .hold _ | .follow _ _ => { ch with settle := 0, moveDone := false, lapse := false }
    | _ => { ch with tc := ch.position, tf := 0, v := max (-(ch.params.vmax : Int)) (min ch.params.vmax ch.speed),
                     settle := 0, moveDone := false, lapse := false } := by
  rw [← clampAbs_eq]
  split
  case h_4 other_position other_hold other_follow =>
    rw [seedProfile, if_neg]
    · rfl
    · cases hm : ch.mode <;> simp_all [ChanMode.positionControlled]
  all_goals
    rename_i hm
    rw [seedProfile, if_pos (by rw [hm]; rfl)]
    rfl

theorem seedProfile_position (ch : Channel) : (clearMarks (seedProfile ch)).position = ch.position := by
  show (seedProfile ch).position = _
  unfold seedProfile
  split <;> rfl

theorem motorData_position (g : Word) (ch : Channel) :
    motorData (enterSetpoint (.position g) ch) = [4] ++ wordBytes g ++ wordBytes ch.position := by
  show [4] ++ wordBytes g ++ wordBytes (clearMarks (seedProfile ch)).position = _
  rw [seedProfile_position]

theorem motorData_hold (ch : Channel) :
    motorData (enterSetpoint .hold ch) = [5] ++ wordBytes ch.position ++ wordBytes ch.position := by
  show [5] ++ wordBytes ch.position ++ wordBytes (clearMarks (seedProfile ch)).position = _
  rw [seedProfile_position]

/-- Settles O36: the reference of SPEED, the profile seeds of POSITION and HOLD. -/
theorem setMotorClosesLoop : Obligations.SetMotorClosesLoop := by
  unfold Obligations.SetMotorClosesLoop
  intro h c value keep s running free unheld encoded ch b vmax within open_ch seeded
  have passes (sp : MotorSetpoint) : channelCheck c sp s = none := channelCheck_none running free unheld (.inl encoded)
  have seeds : clearMarks (seedProfile ch) = seeded := by
    rw [seedProfile_eq] <;> rfl
  refine ⟨⟨seedRef ch, ?_, fun other => ?_, fun ⟨v, hv⟩ => ?_⟩, ?_, ?_⟩
  · refine (exec_setMotor_taken (sp := .speed value.toInt) rfl (passes _) h keep).trans ?_
    simp only [clampSetpoint, okOr_bne, enterSetpoint, clampAbs_eq, motorData, ChanMode.setpoint]
    rfl
  · rw [seedRef]
    split
    · exact absurd ‹_› (other _)
    · exact clampAbs_eq ..
  · rw [seedRef, hv]
  · refine (exec_setMotor_taken (sp := .position value) rfl (passes _) h keep).trans ?_
    rw [← seeds, motorData_position]
    rfl
  · refine (exec_setMotor_taken (sp := .hold) rfl (passes _) h keep).trans ?_
    rw [← seeds, motorData_hold]
    rfl

/-! ## SET_FOLLOW (R64) -/

/-- What the bytes of SET_FOLLOW name as a source that channel c may follow (R64). -/
def NamesSource (c : Fin 4) (f : RawFollow) (s : State) (src : FollowSource) : Prop :=
  match src with
  | .localChan d => f.source = 0 ∧ f.which.toNat = d.val ∧ d ≠ c
  | .mirror k => f.source = 1 ∧ f.which.toNat = k.val ∧ (s.entry k).isSome = true
  | .sensor p n => f.source = 2 ∧ f.which.toNat = p.val + 1 ∧ f.valueNumber.toNat = n ∧ n ≤ 3

/-- A numerator and denominator that SET_FOLLOW takes (R64). -/
def FollowInRange (f : RawFollow) : Prop :=
  -1024 ≤ f.numerator.toInt ∧ f.numerator.toInt ≤ 1024 ∧ 1 ≤ f.denominator.toNat ∧ f.denominator.toNat ≤ 1024

/-- The record of a request that passes (R64). -/
def followRec (f : RawFollow) (src : FollowSource) : FollowRec :=
  { source := src, num := f.numerator.toInt, den := f.denominator.toNat, offset := f.offset }

theorem channelOf_eq_some (b : Byte) (c : Fin 4) : channelOf b = some c ↔ b.toNat = c.val := by
  simp [channelOf, Fin.ext_iff]
  omega

theorem channelOf_none {b : Byte} (h : 3 < b.toNat) : channelOf b = none := dif_neg (by omega)

theorem listenOf_eq_some (b : Byte) (k : Fin 16) : listenOf b = some k ↔ b.toNat = k.val := by
  simp [listenOf, Fin.ext_iff]
  omega

theorem portOf_eq_some (b : Byte) (p : Fin 4) : portOf b = some p ↔ b.toNat = p.val + 1 := by
  simp [portOf, Fin.ext_iff]
  omega

theorem followSourceOf_localChan (a b n : Byte) (d : Fin 4) :
    followSourceOf a b n = some (.localChan d) ↔ a = 0#8 ∧ b.toNat = d.val := by
  have kind : a = 0#8 ↔ a.toNat = 0 := by bv_omega
  unfold followSourceOf
  split <;> simp_all [channelOf_eq_some]
  split <;> simp_all

theorem followSourceOf_mirror (a b n : Byte) (k : Fin 16) :
    followSourceOf a b n = some (.mirror k) ↔ a = 1#8 ∧ b.toNat = k.val := by
  have kind : a = 1#8 ↔ a.toNat = 1 := by bv_omega
  unfold followSourceOf
  split <;> simp_all [listenOf_eq_some]
  split <;> simp_all

theorem followSourceOf_sensor (a b n : Byte) (p : Fin 4) (m : Nat) :
    followSourceOf a b n = some (.sensor p m) ↔ a = 2#8 ∧ b.toNat = p.val + 1 ∧ n.toNat = m ∧ m ≤ 3 := by
  have kind : a = 2#8 ↔ a.toNat = 2 := by bv_omega
  unfold followSourceOf
  split
  case h_3 h =>
    rw [kind, h, ← portOf_eq_some]
    cases portOf b with
    | none => simp
    | some q =>
      simp only [ite_eq_iff, Option.some.injEq, FollowSource.sensor.injEq, reduceCtorEq, and_false, or_false, true_and]
      constructor
      · rintro ⟨h3, rfl, rfl⟩
        exact ⟨rfl, rfl, h3⟩
      · rintro ⟨rfl, rfl, h3⟩
        exact ⟨h3, rfl, rfl⟩
  all_goals simp_all

theorem namesSource_iff (c : Fin 4) (f : RawFollow) (s : State) (src : FollowSource) : NamesSource c f s src ↔
    followSourceOf f.source f.which f.valueNumber = some src ∧ ¬(src = .localChan c ∨ mirrorUnused src s = true) := by
  cases src with
  | localChan d => simp [NamesSource, mirrorUnused, followSourceOf_localChan, and_assoc]
  | mirror k => simp [NamesSource, mirrorUnused, followSourceOf_mirror, and_assoc, Option.isSome_iff_ne_none]
  | sensor p n => simp [NamesSource, mirrorUnused, followSourceOf_sensor]

theorem followOf_named {c : Fin 4} {f : RawFollow} {s : State} {src : FollowSource} (h : NamesSource c f s src)
    (hr : FollowInRange f) : followOf c f s = some (followRec f src) := by
  obtain ⟨named, usable⟩ := (namesSource_iff c f s src).1 h
  obtain ⟨n1, n2, d1, d2⟩ := hr
  unfold followOf
  rw [named]
  show (if _ then _ else _) = _
  rw [if_neg usable, if_neg (by omega), if_neg (by omega)]
  rfl

theorem followOf_badArg {c : Fin 4} {f : RawFollow} {s : State}
    (h : (∀ src, ¬ NamesSource c f s src) ∨ ¬ FollowInRange f) : followOf c f s = none := by
  unfold followOf
  split
  · rfl
  · rename_i src named
    split
    · rfl
    · rename_i usable
      have outside : ¬ FollowInRange f := h.resolve_left fun none => none src ((namesSource_iff c f s src).2 ⟨named, usable⟩)
      unfold FollowInRange at outside
      split
      · rfl
      · exact if_pos (by omega)

section SetFollow

variable {c : Fin 4} {f : RawFollow} {s : State} {src : FollowSource}

theorem exec_setFollow_now (hs : NamesSource c f s src) (hr : FollowInRange f) (h : ReqCtx) (keep : Bool) :
    exec (.setFollow h (BitVec.ofNat 8 c.val) f 0 keep) s = .next (setFollowNow h c (followRec f src) s) := by
  show Host.Outcome.next (doSetFollow h (BitVec.ofNat 8 c.val) f 0 keep s) = _
  simp only [doSetFollow, channelOf_ofNat, followOf_named hs hr]
  rfl

theorem exec_setFollow_refused {why : Result} (hs : NamesSource c f s src) (hr : FollowInRange f)
    (hc : channelCheck c (.follow (followRec f src)) s = some why) (h : ReqCtx) (keep : Bool) :
    exec (.setFollow h (BitVec.ofNat 8 c.val) f 0 keep) s = .next (answer h why [] s) := by
  rw [exec_setFollow_now hs hr, setFollowNow, hc]

theorem exec_setFollow_taken (hs : NamesSource c f s src) (hr : FollowInRange f)
    (hc : channelCheck c (.follow (followRec f src)) s = none) (h : ReqCtx) (keep : Bool) :
    exec (.setFollow h (BitVec.ofNat 8 c.val) f 0 keep) s = .next (answer h .ok
      (wordBytes (s.chan c).position ++ [boolByte (sourceUsable src s)])
      (s.setChan c (enterSetpoint (.follow (followRec f src)) (s.chan c)))) := by
  rw [exec_setFollow_now hs hr, setFollowNow, hc]
  rfl

theorem doSetFollow_badArg {cue : Byte}
    (bad : (∀ src, ¬ NamesSource c f s src) ∨ ¬ FollowInRange f ∨ 15 < cue.toNat) (h : ReqCtx) (keep : Bool) :
    doSetFollow h (BitVec.ofNat 8 c.val) f cue keep s = answer h .badArg [] s := by
  unfold doSetFollow
  rw [channelOf_ofNat]
  show (match followOf c f s with | none => _ | some r => _) = _
  split
  · rfl
  · rename_i r hr
    rcases bad with none_named | outside | high
    · rw [followOf_badArg (.inl none_named)] at hr
      exact nomatch hr
    · rw [followOf_badArg (.inr outside)] at hr
      exact nomatch hr
    · exact if_pos high

theorem sourceUsable_localChan (d : Fin 4) (s : State) :
    sourceUsable (.localChan d) s = decide ((s.chan d).kind = .encoded) := by
  by_cases h : (s.chan d).kind = .encoded
  · rw [sourceUsable, readSource, if_pos h, decide_eq_true h]
  · rw [sourceUsable, readSource, if_neg h, decide_eq_false h]

theorem sourceUsable_mirror {k : Fin 16} {e : ListenEntry} (h : s.entry k = some e) :
    sourceUsable (.mirror k) s = decide (e.state = .fresh) := by
  simp only [sourceUsable, readSource, h]
  cases e.state <;> rfl

theorem sourceUsable_sensor (p : Fin 4) (n : Nat) (s : State) :
    sourceUsable (.sensor p n) s = ((s.port p).reading.valid && (s.port p).reading.values[n]?.isSome) := by
  unfold sourceUsable readSource
  cases hv : (s.port p).reading.valid <;> cases hx : (s.port p).reading.values[n]? <;> simp [hv, hx]

end SetFollow

/-- Settles O37: what the bytes name, what FOLLOW is entered with, and the refusals in their order. -/
theorem setFollowEntersFollow : Obligations.SetFollowEntersFollow := by
  unfold Obligations.SetFollowEntersFollow
  refine ⟨fun h c d k p f src usable keep s source n1 n2 d1 d2 running free unheld encoded => ?_,
    fun h c f cue keep s => ?_⟩
  · have named : NamesSource c f s src ∧ sourceUsable src s = usable := by
      rcases source with ⟨kind, other, which, rfl, rfl⟩ | ⟨kind, which, rfl, e, used, rfl⟩ |
          ⟨kind, which, number, rfl, rfl⟩
      · exact ⟨⟨kind, by rw [which, BitVec.toNat_ofNat]; omega, other.symm⟩, sourceUsable_localChan d s⟩
      · exact ⟨⟨kind, by rw [which, BitVec.toNat_ofNat]; omega, by simp [used]⟩, sourceUsable_mirror used⟩
      · exact ⟨⟨kind, by rw [which, BitVec.toNat_ofNat]; omega, rfl, number⟩, sourceUsable_sensor p _ s⟩
    have taken := exec_setFollow_taken named.1 ⟨n1, n2, d1, d2⟩
      (channelCheck_none running free unheld (.inl encoded)) h keep
    refine ⟨followGoal (s.chan c), ?_, fun q g hm => by rw [followGoal, hm], fun other => ?_⟩
    · rw [taken, named.2]
      refine congrArg (fun x => Host.Outcome.next (answer h .ok _ (s.setChan c x))) ?_
      show { clearMarks (seedProfile (s.chan c)) with mode := .follow (followRec f src) (followGoal (s.chan c)) } = _
      rw [seedProfile_eq]
      rfl
    · rw [followGoal]
      split
      · exact absurd ‹_› (other _ _)
      · rfl
  · refine ⟨fun bad => congrArg _ (doSetFollow_badArg bad h keep), fun ch out => ?_, fun src named range =>
      ⟨fun halted => ?_, fun running free held => ?_, fun running free unheld plain => ?_⟩⟩
    · show Host.Outcome.next (doSetFollow h ch f cue keep s) = _
      rw [doSetFollow, channelOf_none out]
    · exact exec_setFollow_refused named range (channelCheck_halted halted) h keep
    · exact exec_setFollow_refused named range (channelCheck_tripped running free held) h keep
    · exact exec_setFollow_refused named range (channelCheck_noEncoder running free unheld plain rfl) h keep

/-! ## CONFIG_MOTOR and RESET_POSITION (R65, R66) -/

theorem clampParams_eq (p : RawParams) : clampParams p =
    { kp := max 0 (min 4095 p.kp.toNat), ki := max 0 (min 1023 p.ki.toNat), kx := p.kx.toNat,
      vmax := max 1 (min 4000 p.vmax.toNat), acc := max 1 (min 400 p.acc.toNat), limit := max 0 (min 1000 p.limit.toNat),
      ilim := max 100 (min 3000 p.ilim.toNat), stallTime := max 100 (min 5000 p.stallTime.toNat),
      tolerance := p.tolerance.toNat } := by
  unfold clampParams
  repeat rw [clampN_eq (by decide)]

theorem clampParams_eq_rawParams (p : RawParams) : clampParams p = rawParams p ↔
    (clampParams p).kp = p.kp.toNat ∧ (clampParams p).ki = p.ki.toNat ∧ (clampParams p).vmax = p.vmax.toNat ∧
      (clampParams p).acc = p.acc.toNat ∧ (clampParams p).limit = p.limit.toNat ∧ (clampParams p).ilim = p.ilim.toNat ∧
      (clampParams p).stallTime = p.stallTime.toNat := by
  simp [clampParams, rawParams]

theorem stopped_eq_true (m : ChanMode) : m.stopped = true ↔ m = .coast ∨ m = .brake := by cases m <;> simp [ChanMode.stopped]

theorem changeKind_cases (k : ChanKind) (x : Channel) : changeKind k x = { x with
    kind := k
    history := if x.kind = .plain ∧ k = .encoded then Vector.replicate 8 x.position else x.history } := by
  unfold changeKind
  by_cases same : x.kind = k
  · have kept : ¬(x.kind = .plain ∧ k = .encoded) := by
      rintro ⟨plain, encoded⟩
      exact nomatch plain.symm.trans (same.trans encoded)
    rw [if_pos same, if_neg kept, ← same]
  · rw [if_neg same]
    cases k with
    | plain => rw [if_neg (fun h => nomatch h.2)]
    | encoded =>
      have plain : x.kind = .plain := by
        cases h : x.kind
        · exact absurd h same
        · rfl
      rw [if_pos ⟨plain, rfl⟩]

section ConfigMotor

variable {kind : Byte} {k : ChanKind} {c : Fin 4} {s : State}

theorem doConfigMotor_busy (hk : kindOf kind = some k) (other : (s.chan c).kind ≠ k)
    (moving : (s.chan c).mode.stopped = false) (h : ReqCtx) (p : RawParams) :
    doConfigMotor h (BitVec.ofNat 8 c.val) kind p s = answer h .busy [] s := by
  simp only [doConfigMotor, channelOf_ofNat, hk]
  exact if_pos ⟨other, moving⟩

theorem doConfigMotor_taken (hk : kindOf kind = some k) (free : ¬((s.chan c).kind ≠ k ∧ (s.chan c).mode.stopped = false))
    (h : ReqCtx) (p : RawParams) : doConfigMotor h (BitVec.ofNat 8 c.val) kind p s =
      answer h (if clampParams p = rawParams p then .ok else .limited) (paramBytes (clampParams p))
        (s.setChan c { changeKind k (s.chan c) with pendingParams := some (clampParams p) }) := by
  simp only [doConfigMotor, channelOf_ofNat, hk]
  rw [if_neg free, okOr_bne]
  rfl

end ConfigMotor

/-- Settles O38, by whether the kind changes away from a moving mode. -/
theorem configMotorSetsPending : Obligations.ConfigMotorSetsPending := by
  unfold Obligations.ConfigMotorSetsPending
  intro h c kind p s k named ch i cl q
  have hk : kindOf kind = some k := by rcases named with ⟨rfl, rfl⟩ | ⟨rfl, rfl⟩ <;> rfl
  have hq : clampParams p = q := clampParams_eq p
  refine ⟨fun other not_coast not_brake => congrArg _ (doConfigMotor_busy hk other ?_ h p), fun free => ?_⟩
  · rw [Bool.eq_false_iff, ne_eq, stopped_eq_true]
    exact fun stopped => stopped.elim not_coast not_brake
  · have taken := doConfigMotor_taken (s := s) (c := c) hk (fun ⟨other, moving⟩ => ?_) h p
    · refine ⟨if clampParams p = rawParams p then .ok else .limited, ?_, ite_eq_or_eq .., ?_⟩
      · show Host.Outcome.next (doConfigMotor h (BitVec.ofNat 8 c.val) kind p s) = _
        rw [taken, hq, changeKind_cases]
      · rw [← hq, ← clampParams_eq_rawParams]
        exact ite_eq_left_iff.trans (by simp)
    · rcases free with same | stopped | stopped
      · exact other same
      · rw [Bool.eq_false_iff, ne_eq, stopped_eq_true] at moving
        exact moving (.inl stopped)
      · rw [Bool.eq_false_iff, ne_eq, stopped_eq_true] at moving
        exact moving (.inr stopped)

theorem wrapDiff_add_add (a b d : Word) : wrapDiff (a + d) (b + d) = wrapDiff a b := by
  unfold wrapDiff
  congr 1
  bv_omega

theorem resetPosition_shape (value : Word) (ch : Channel) : resetPosition value ch = { ch with
    position := value, history := (resetPosition value ch).history, mode := (resetPosition value ch).mode,
    tc := (resetPosition value ch).tc } := by
  unfold resetPosition
  simp only
  split <;> rfl

theorem resetPosition_history (value : Word) (ch : Channel) (i : Fin 8) :
    (resetPosition value ch).history.get i = ch.history.get i + (value - ch.position) := by
  have shifted : (resetPosition value ch).history = mapEach (· + (value - ch.position)) ch.history := by
    unfold resetPosition
    simp only
    split <;> rfl
  rw [shifted, get_mapEach]

theorem resetPosition_mode (value : Word) (ch : Channel) :
    (resetPosition value ch).mode = shiftGoal (value - ch.position) ch.mode := by
  unfold resetPosition
  simp only
  split <;> rfl

theorem resetPosition_tc (value : Word) (ch : Channel) : (resetPosition value ch).tc =
    if ch.mode.positionControlled then ch.tc + (value - ch.position) else ch.tc := by
  unfold resetPosition
  simp only
  split <;> rfl

/-- Settles O39, by the mode's goal. -/
theorem resetPositionShifts : Obligations.ResetPositionShifts := by
  unfold Obligations.ResetPositionShifts
  intro h c value s d
  have moved : value = (s.chan c).position + d := by
    show value = (s.chan c).position + (value - (s.chan c).position)
    bv_omega
  have mode := resetPosition_mode value (s.chan c)
  have tc := resetPosition_tc value (s.chan c)
  refine ⟨resetPosition value (s.chan c), ?_, resetPosition_shape .., fun i => ?_, ?_, fun g g' hg hg' => ?_⟩
  · show Host.Outcome.next (doResetPosition h (BitVec.ofNat 8 c.val) value s) = _
    simp only [doResetPosition, channelOf_ofNat]
    rfl
  · rw [resetPosition_history]
    nth_rw 1 [moved]
    exact wrapDiff_add_add ..
  · rw [mode, tc]
    cases (s.chan c).mode <;> exact ⟨rfl, rfl⟩
  · have shifted : g' = g + d ∧ (resetPosition value (s.chan c)).tc = (s.chan c).tc + d := by
      rw [mode] at hg'
      rw [tc]
      cases hm : (s.chan c).mode <;> rw [hm] at hg hg' <;> cases hg <;> cases hg' <;> exact ⟨rfl, rfl⟩
    rw [shifted.1, shifted.2]
    refine ⟨wrapDiff_add_add .., ?_⟩
    nth_rw 1 [moved]
    exact wrapDiff_add_add ..

/-! ## The encoder and the PWM generator (R69, R76, R93 to R95) -/

section Encoder

variable {c : Fin 4} {s : State} {ch : Channel} {x y : Bool}

theorem encoderStep_plain (h : ch.kind = .plain) (x y : Bool) :
    encoderStep x y ch = { ch with line1 := x, line2 := y } := by
  unfold encoderStep
  simp only
  split
  · rfl
  · rename_i kind
    exact nomatch h.symm.trans kind

theorem encoderStep_up (h : ch.kind = .encoded) (hp : (encoderPhase x y + 4 - encoderPhase ch.line1 ch.line2) % 4 = 1) :
    encoderStep x y ch = { ch with line1 := x, line2 := y, position := ch.position + 1 } := by
  simp only [encoderStep, hp]
  split
  · rename_i kind
    exact nomatch h.symm.trans kind
  · rfl

theorem encoderStep_down (h : ch.kind = .encoded) (hp : (encoderPhase x y + 4 - encoderPhase ch.line1 ch.line2) % 4 = 3) :
    encoderStep x y ch = { ch with line1 := x, line2 := y, position := ch.position - 1 } := by
  simp only [encoderStep, hp]
  split
  · rename_i kind
    exact nomatch h.symm.trans kind
  · rfl

theorem encoderStep_glitch (h : ch.kind = .encoded)
    (hp : (encoderPhase x y + 4 - encoderPhase ch.line1 ch.line2) % 4 = 2) :
    encoderStep x y ch = { ch with line1 := x, line2 := y, glitch := min 255 (ch.glitch + 1) } := by
  simp only [encoderStep, hp]
  split
  · rename_i kind
    exact nomatch h.symm.trans kind
  · rfl

theorem exec_encoderTransition_counted (running : s.inReset = false) (x y : Bool) :
    exec (.encoderTransition c x y) s = .next (s.setChan c (encoderStep x y (s.chan c))) := by
  rw [show exec (.encoderTransition c x y) s = execEncoderTransition c x y s from rfl, execEncoderTransition,
    if_neg (by simp [running])]
  rfl

theorem exec_encoderTransition_reset (reset : s.inReset = true) (x y : Bool) :
    exec (.encoderTransition c x y) s = .next (s.setChan c { s.chan c with line1 := x, line2 := y }) := by
  rw [show exec (.encoderTransition c x y) s = execEncoderTransition c x y s from rfl, execEncoderTransition,
    if_pos reset]
  rfl

/-- Where the lines stand after a transition, in places of the forward sequence. -/
theorem encoderPhase_moves : ∀ a b : Bool,
    (encoderPhase (!b) a + 4 - encoderPhase a b) % 4 = 1 ∧ (encoderPhase b (!a) + 4 - encoderPhase a b) % 4 = 3 ∧
      (encoderPhase (!a) (!b) + 4 - encoderPhase a b) % 4 = 2 := by decide

end Encoder

theorem exec_pwmWrap {c : Fin 4} {s : State} (h : s.inReset = false) : exec (.pwmWrap c) s =
    .next (s.setChan c { loadCompare (s.chan c) with
      bridge := patternOf (s.supply.state == .brownout) (loadCompare (s.chan c)) }) := by
  rw [show exec (.pwmWrap c) s = execPwmWrap c s from rfl, execPwmWrap, if_neg (by simp [h])]
  rfl

theorem loadCompare_shape (ch : Channel) :
    loadCompare ch = { ch with runC := (loadCompare ch).runC, runDir := (loadCompare ch).runDir } := by
  unfold loadCompare
  split
  · rfl
  · split
    · rfl
    · split <;> rfl

section LoadCompare

variable {ch : Channel}

theorem loadCompare_loads (h : ch.nextDir = ch.runDir ∨ ch.runC = 0) (hc : ch.nextC ≠ 0) :
    (loadCompare ch).runC = ch.nextC ∧ (loadCompare ch).runDir = ch.nextDir := by
  unfold loadCompare
  rw [if_neg hc]
  split
  · exact ⟨rfl, Eq.symm ‹_›⟩
  · rw [if_pos (h.resolve_left ‹_›)]
    exact ⟨rfl, rfl⟩

theorem loadCompare_zero (hc : ch.nextC = 0) : (loadCompare ch).runC = 0 ∧ (loadCompare ch).runDir = ch.runDir := by
  rw [loadCompare, if_pos hc]
  exact ⟨rfl, rfl⟩

/-- A reversal passes through a period of 0 (R94). -/
theorem loadCompare_reverses (h : ch.nextDir ≠ ch.runDir) (hr : ch.runC ≠ 0) :
    (loadCompare ch).runC = 0 ∧ (loadCompare ch).runDir = ch.runDir := by
  by_cases hc : ch.nextC = 0
  · exact loadCompare_zero hc
  · rw [loadCompare, if_neg hc, if_neg h, if_neg hr]
    exact ⟨rfl, rfl⟩

theorem patternOf_off {brownout : Bool} (h : brownout = true ∨ ch.mode = .coast) : patternOf brownout ch = .allOff := by
  unfold patternOf
  split
  · rfl
  · rw [h.resolve_left ‹_›]

theorem patternOf_brake (h : ch.mode = .brake) : patternOf false ch = .lowSides := by
  simp [patternOf, h]

theorem patternOf_driven (h1 : ch.mode ≠ .coast) (h2 : ch.mode ≠ .brake) :
    patternOf false ch = if ch.runC = 0 then .lowSides else .drive ch.runDir ch.runC := by
  rw [patternOf, if_neg (by simp)]
  split
  · exact absurd ‹_› h1
  · exact absurd ‹_› h2
  · rfl

end LoadCompare

/-- Settles O40: the encoder by what its lines do, the wrap by the compare and the mode. -/
theorem encoderAndBridge : Obligations.EncoderAndBridge := by
  refine ⟨fun c s a b => ?_, fun c s running => ?_⟩
  · rintro ch rfl rfl
    obtain ⟨up, down, glitch⟩ := encoderPhase_moves ch.line1 ch.line2
    refine ⟨fun running encoded => ⟨?_, ?_, ?_⟩, fun still x y => ?_⟩
    · rw [exec_encoderTransition_counted running, encoderStep_up encoded up]
    · rw [exec_encoderTransition_counted running, encoderStep_down encoded down]
    · rw [exec_encoderTransition_counted running, encoderStep_glitch encoded glitch]
    · rcases Bool.eq_false_or_eq_true s.inReset with reset | running
      · exact exec_encoderTransition_reset reset x y
      · rw [exec_encoderTransition_counted running, encoderStep_plain (still.resolve_left (by simp [running]))]
  · have mode : (loadCompare (s.chan c)).mode = (s.chan c).mode := by rw [loadCompare_shape]
    refine ⟨(loadCompare (s.chan c)).runC, (loadCompare (s.chan c)).runDir,
      patternOf (s.supply.state == .brownout) (loadCompare (s.chan c)), ?_, loadCompare_loads, loadCompare_zero,
      loadCompare_reverses, fun off => ?_, fun supplied brake => ?_, fun supplied not_coast not_brake => ?_⟩
    · rw [exec_pwmWrap running]
      nth_rw 1 [loadCompare_shape]
    · exact patternOf_off (off.imp (by simp) mode.trans)
    · rw [beq_eq_false_iff_ne.2 supplied]
      exact patternOf_brake (mode.trans brake)
    · rw [beq_eq_false_iff_ne.2 supplied]
      exact patternOf_driven (by rwa [mode]) (by rwa [mode])

end Sys2Proof.Machine
end

section
/-! PROOFS. The stages of the motion computation (R80 to R86). -/

namespace Sys2Proof.Machine

/-! ## The profile (R80 to R82) -/

theorem opposing_eq_true (d v : Int) :
    opposing d v = true ↔ v ≠ 0 ∧ (d = 0 ∨ (d < 0 ∧ 0 < v) ∨ (0 < d ∧ v < 0)) := by
  simp [opposing, or_assoc]

theorem stopBound_eq (a x : Nat) : stopBound a x = if x ≤ a then 0 else x * (x - a) / (2 * a) := by
  unfold stopBound
  by_cases h : x ≤ a
  · rw [if_neg (by omega), if_pos h]
  · rw [if_pos (by omega), if_neg h]

theorem natAbs_withSign (d : Int) (m : Nat) : (withSign d m).natAbs = m := by
  unfold withSign
  split <;> omega

theorem withSign_pos {d : Int} {m : Nat} (h : 0 < withSign d m) : 0 ≤ d := by
  unfold withSign at h
  split at h <;> omega

theorem withSign_neg {d : Int} {m : Nat} (h : withSign d m < 0) : d < 0 := by
  unfold withSign at h
  split at h <;> omega

theorem withSign_eq_zero_or (d : Int) (m : Nat) (hd : d ≠ 0) : withSign d m = 0 ∨ (0 < withSign d m ↔ 0 < d) := by
  unfold withSign
  split <;> omega

theorem profileSpeed_opposing {a vmax : Nat} {d v : Int}
    (h : v ≠ 0 ∧ (d = 0 ∨ (d < 0 ∧ 0 < v) ∨ (0 < d ∧ v < 0))) : profileSpeed a vmax d v = withSign v (v.natAbs - a) :=
  if_pos ((opposing_eq_true d v).2 h)

theorem profileSpeed_normal {a vmax : Nat} {d v : Int}
    (h : ¬(v ≠ 0 ∧ (d = 0 ∨ (d < 0 ∧ 0 < v) ∨ (0 < d ∧ v < 0)))) :
    profileSpeed a vmax d v = withSign d (min (chooseSpeed a vmax v.natAbs d.natAbs) d.natAbs) :=
  if_neg fun opposed => h ((opposing_eq_true d v).1 opposed)

section Choose

variable {a vmax m dist : Nat}

theorem chooseSpeed_above (h : vmax < m) : chooseSpeed a vmax m dist = max (m - a) vmax := if_pos h

theorem chooseSpeed_up (h : m ≤ vmax) (up : m + a + stopBound a (m + a) ≤ dist ∧ m + a ≤ vmax) :
    chooseSpeed a vmax m dist = m + a := by
  rw [chooseSpeed, if_neg (by omega), if_pos up]

theorem chooseSpeed_hold (h : m ≤ vmax) (up : ¬(m + a + stopBound a (m + a) ≤ dist ∧ m + a ≤ vmax))
    (fits : m + stopBound a m ≤ dist) : chooseSpeed a vmax m dist = m := by
  rw [chooseSpeed, if_neg (by omega), if_neg up, if_pos fits]

theorem chooseSpeed_down (h : m ≤ vmax) (up : ¬(m + a + stopBound a (m + a) ≤ dist ∧ m + a ≤ vmax))
    (short : dist < m + stopBound a m) : chooseSpeed a vmax m dist = m - a := by
  rw [chooseSpeed, if_neg (by omega), if_neg up, if_neg (by omega)]

theorem chooseSpeed_bounds (a vmax m dist : Nat) : chooseSpeed a vmax m dist ≤ max vmax (m - a) ∧
    chooseSpeed a vmax m dist ≤ m + a ∧ m - a ≤ chooseSpeed a vmax m dist := by
  unfold chooseSpeed
  split
  · omega
  · split
    · omega
    · split <;> omega

end Choose

theorem profileSpeed_facts (a vmax : Nat) (d v : Int) :
    let w := profileSpeed a vmax d v
    ((v ≠ 0 ∧ (d = 0 ∨ (d < 0 ∧ 0 < v) ∨ (0 < d ∧ v < 0))) → w.natAbs = v.natAbs - a ∧ (w = 0 ∨ (0 < w ↔ 0 < v))) ∧
    (¬(v ≠ 0 ∧ (d = 0 ∨ (d < 0 ∧ 0 < v) ∨ (0 < d ∧ v < 0))) →
      w.natAbs ≤ d.natAbs ∧ (0 < w → 0 < d) ∧ (w < 0 → d < 0) ∧ w.natAbs ≤ max vmax (v.natAbs - a) ∧
      w.natAbs ≤ v.natAbs + a ∧ (v.natAbs - a ≤ w.natAbs ∨ w.natAbs = d.natAbs) ∧
      let m := v.natAbs
      let bound (x : Nat) : Nat := if x ≤ a then 0 else x * (x - a) / (2 * a)
      let speedsUp : Prop := m + a + bound (m + a) ≤ d.natAbs ∧ m + a ≤ vmax
      (vmax < m → w.natAbs = min d.natAbs (max (m - a) vmax)) ∧
      (m ≤ vmax → speedsUp → w.natAbs = m + a) ∧
      (m ≤ vmax → ¬ speedsUp → m + bound m ≤ d.natAbs → w.natAbs = m) ∧
      (m ≤ vmax → ¬ speedsUp → d.natAbs < m + bound m → w.natAbs = min d.natAbs (m - a))) := by
  refine ⟨fun opposed => ?_, fun normal => ?_⟩
  · rw [profileSpeed_opposing opposed]
    exact ⟨natAbs_withSign .., withSign_eq_zero_or _ _ opposed.1⟩
  · obtain ⟨top, rise, fall⟩ := chooseSpeed_bounds a vmax v.natAbs d.natAbs
    have size : (profileSpeed a vmax d v).natAbs = min (chooseSpeed a vmax v.natAbs d.natAbs) d.natAbs := by
      rw [profileSpeed_normal normal, natAbs_withSign]
    have positive : 0 < profileSpeed a vmax d v → 0 ≤ d := by
      rw [profileSpeed_normal normal]
      exact withSign_pos
    have negative : profileSpeed a vmax d v < 0 → d < 0 := by
      rw [profileSpeed_normal normal]
      exact withSign_neg
    refine ⟨by omega, by omega, negative, by omega, by omega, by omega, ?_⟩
    intro m bound speedsUp
    have bound_eq (x : Nat) : bound x = stopBound a x := (stopBound_eq a x).symm
    have up_iff : speedsUp ↔ m + a + stopBound a (m + a) ≤ d.natAbs ∧ m + a ≤ vmax := by
      show m + a + bound (m + a) ≤ d.natAbs ∧ m + a ≤ vmax ↔ _
      rw [bound_eq]
    rw [bound_eq, up_iff]
    refine ⟨fun above => ?_, fun within up => ?_, fun within up fits => ?_, fun within up short => ?_⟩
    · rw [size, chooseSpeed_above above, min_comm]
    · rw [size, chooseSpeed_up within up]
      omega
    · rw [size, chooseSpeed_hold within up fits]
      omega
    · rw [size, chooseSpeed_down within up short, min_comm]

/-- The target advances by v eighths, the carry with floor semantics (R82). -/
theorem advance_facts (v : Int) (ch : Channel) :
    let t := advance v ch
    t.tf < 8 ∧ t.v = v ∧ t = { ch with tc := t.tc, tf := t.tf, v := v } ∧
    ((t.tc - ch.tc).toInt - ((ch.tf : Int) + v - t.tf) / 8) % 4294967296 = 0 ∧ ((ch.tf : Int) + v - t.tf) % 8 = 0 := by
  have carried : ((((ch.tf : Int) + v) % 8).toNat : Int) = ((ch.tf : Int) + v) % 8 := by omega
  have moved : ch.tc + toWord (((ch.tf : Int) + v) / 8) - ch.tc = toWord (((ch.tf : Int) + v) / 8) := by bv_omega
  refine ⟨?_, rfl, rfl, ?_, ?_⟩
  · show (((ch.tf : Int) + v) % 8).toNat < 8
    omega
  · show ((ch.tc + toWord (((ch.tf : Int) + v) / 8) - ch.tc).toInt -
      ((ch.tf : Int) + v - ((((ch.tf : Int) + v) % 8).toNat : Int)) / 8) % 4294967296 = 0
    rw [moved, carried, toWord, BitVec.toInt_ofInt, show (2 : Nat) ^ 32 = 4294967296 from rfl]
    simp only [Int.bmod_def]
    split <;> omega
  · show ((ch.tf : Int) + v - ((((ch.tf : Int) + v) % 8).toNat : Int)) % 8 = 0
    omega

/-! ## Reference, regulator and open drive (R83 to R86) -/

theorem rampRef_facts (a : Nat) (set r : Int) :
    ((set - r).natAbs ≤ a → rampRef a set r = set) ∧
    (¬ (set - r).natAbs ≤ a → (r < set → rampRef a set r = r + a ∧ rampRef a set r < set) ∧
      (set < r → rampRef a set r = r - a ∧ set < rampRef a set r)) := by
  unfold rampRef
  refine ⟨fun near => if_pos near, fun far => ?_⟩
  rw [if_neg far]
  refine ⟨fun below => ?_, fun above => ?_⟩
  · rw [if_pos below]
    omega
  · rw [if_neg (by omega)]
    omega

theorem refStage_goal {g : Word} {ch : Channel} (h : ch.mode.goal = some g) : refStage ch = { ch with ref := trackRef ch } := by
  unfold refStage
  split <;> simp_all [ChanMode.goal]

theorem trackRef_eq (ch : Channel) :
    trackRef ch = max (-(2 * ch.params.vmax : Int)) (min (2 * ch.params.vmax)
      (ch.v + Int.tdiv (ch.params.kx * max (-1048576) (min 1048576 (8 * wrapDiff ch.tc ch.position + ch.tf))) 128)) := by
  simp only [trackRef, clampAbs_eq]
  push_cast
  rfl

theorem sameSign_eq_true (a b : Int) : sameSign a b = true ↔ (0 < a ∧ 0 < b) ∨ (a < 0 ∧ b < 0) := by simp [sameSign]

theorem regulate_eq (ch : Channel) :
    let e := max (-32767) (min 32767 (ch.ref - ch.speed))
    let trial := max (-256000) (min 256000 (ch.integ + ch.params.ki * e))
    let u := Int.tdiv (ch.params.kp * e + trial) 256
    regulate ch =
      let i := if ch.leff < u.natAbs ∧ sameSign e u = true then ch.integ else trial
      (i, max (-(ch.leff : Int)) (min ch.leff (Int.tdiv (ch.params.kp * e + i) 256))) := by
  simp only [regulate, clampAbs_eq]
  rfl

theorem openDuty_eq (leff : Nat) (dset : Int) (vbat : Nat) : openDuty leff dset vbat =
    max (-(leff : Int)) (min leff (Int.tdiv (dset * 7200) (if vbat < 3600 then 3600 else vbat))) := by
  have supply : ((max vbat 3600 : Nat) : Int) = if vbat < 3600 then 3600 else (vbat : Int) := by
    split <;> omega
  rw [openDuty, clampAbs_eq, supply]

/-- Settles O42, stage by stage. -/
theorem motionStagesBounded : Obligations.MotionStagesBounded := by
  unfold Obligations.MotionStagesBounded
  refine ⟨fun a vmax d v _ => profileSpeed_facts a vmax d v, advance_facts, fun a set r ch mode acc ref => ?_,
    fun g ch goal => ?_, fun ch small => ?_, fun leff dset vbat => ?_⟩
  · have stage : refStage ch = { ch with ref := rampRef a set r } := by
      subst acc ref
      simp only [refStage, mode]
    rw [stage]
    exact ⟨rfl, rampRef_facts a set r⟩
  · rw [refStage_goal goal, trackRef_eq]
  · intro e trial u
    have regulated := regulate_eq ch
    have leaves : ch.leff < u.natAbs ∧ sameSign e u = true ↔
        ch.leff < u.natAbs ∧ ((0 < e ∧ 0 < u) ∨ (e < 0 ∧ u < 0)) := by rw [sameSign_eq_true]
    by_cases kept : ch.leff < u.natAbs ∧ sameSign e u = true
    · have out : regulate ch =
          (ch.integ, max (-(ch.leff : Int)) (min ch.leff (Int.tdiv (ch.params.kp * e + ch.integ) 256))) :=
        regulated.trans (by simp only [e, trial, u] at kept; simp only [if_pos kept]; rfl)
      rw [out, ← leaves]
      exact ⟨small, by omega, fun _ => ⟨rfl, rfl⟩, fun taken => absurd kept taken⟩
    · have out : regulate ch = (trial, max (-(ch.leff : Int)) (min ch.leff u)) :=
        regulated.trans (by simp only [e, trial, u] at kept; simp only [if_neg kept]; rfl)
      rw [out, ← leaves]
      exact ⟨by omega, by omega, fun held => absurd held kept, fun _ => ⟨rfl, rfl⟩⟩
  · intro q
    refine ⟨openDuty_eq .., fun full => ?_, fun forward => ?_⟩
    · rw [openDuty_eq, full, if_neg (by decide)]
      have : (dset * 7200).tdiv ((7200 : Nat) : Int) = dset := Int.mul_tdiv_cancel _ (by decide)
      rw [this]
    · rw [openDuty_eq]
      have : 0 ≤ q := by
        refine Int.tdiv_nonneg (by omega) ?_
        split <;> omega
      omega

end Sys2Proof.Machine
end

section
/-! PROOFS. What watches, cues and the fault unit leave of a channel's parameters and limit (R59, R88). -/

namespace Sys2Proof.Machine

/-! ## One channel among the state -/

theorem setChan_chan (c : Fin 4) (s : State) : s.setChan c (s.chan c) = s := by
  have same : s.chans.set c.val (s.chan c) c.isLt = s.chans := Vector.set_getElem_self ..
  rw [State.setChan, same]

theorem modChan_eq {c : Fin 4} {f : Channel → Channel} {x : Channel} {s : State} (h : f (s.chan c) = x) :
    s.modChan c f = s.setChan c x := by
  rw [State.modChan, h]

/-- A channel's record after the same change of the channels of a list. -/
theorem chan_forEach_modChan {l : List (Fin 4)} (hl : l.Nodup) (f : Channel → Channel) (s : State) (d : Fin 4) :
    (forEach l (fun c t => t.modChan c f) s).chan d = if d ∈ l then f (s.chan d) else s.chan d := by
  induction l generalizing s with
  | nil => rfl
  | cons c l ih =>
    obtain ⟨fresh, rest⟩ := List.nodup_cons.1 hl
    rw [forEach_cons, ih rest, chan_modChan]
    by_cases hd : d = c
    · rw [hd, if_neg fresh, if_pos rfl, if_pos List.mem_cons_self]
    · simp only [List.mem_cons, hd, if_false, false_or]

theorem mem_all4 (c : Fin 4) : c ∈ all4 := by fin_cases c <;> decide

theorem mem_channelsOf (set : BitVec 4) (c : Fin 4) : c ∈ channelsOf set ↔ set.getLsbD c.val = true := by
  rw [channelsOf, List.mem_filter, and_iff_right (mem_all4 c)]

theorem nodup_channelsOf (set : BitVec 4) : (channelsOf set).Nodup :=
  List.Nodup.filter _ (by decide : all4.Nodup)

/-! ## Parameters and limit kept -/

/-- A channel's parameters, pending parameters and Leff as they were. -/
structure SameTune (x y : Channel) : Prop where
  params : y.params = x.params
  pending : y.pendingParams = x.pendingParams
  leff : y.leff = x.leff

/-- Every channel's parameters and limit as they were. -/
structure TuneKept (s t : State) : Prop where
  chan : ∀ c, SameTune (s.chan c) (t.chan c)

theorem TuneKept.refl (s : State) : TuneKept s s := ⟨fun _ => ⟨rfl, rfl, rfl⟩⟩

theorem TuneKept.trans {s t u : State} (h : TuneKept s t) (k : TuneKept t u) : TuneKept s u :=
  ⟨fun c => ⟨(k.chan c).params.trans (h.chan c).params, (k.chan c).pending.trans (h.chan c).pending,
    (k.chan c).leff.trans (h.chan c).leff⟩⟩

theorem TuneKept.of_chans {s t : State} (h : t.chans = s.chans) : TuneKept s t :=
  ⟨fun c => chan_of_chans h c ▸ ⟨rfl, rfl, rfl⟩⟩

theorem TuneKept.after {s t u : State} (k : TuneKept t u) (h : t.chans = s.chans) : TuneKept s u :=
  (TuneKept.of_chans h).trans k

theorem TuneKept.setChan {s : State} {c : Fin 4} {x : Channel} (h : SameTune (s.chan c) x) : TuneKept s (s.setChan c x) where
  chan d := by
    rw [chan_setChan]
    split
    · rename_i hd
      exact hd ▸ h
    · exact ⟨rfl, rfl, rfl⟩

theorem TuneKept.forEach {α : Type} {f : α → State → State} (l : List α) (h : ∀ a s, TuneKept s (f a s)) (s : State) :
    TuneKept s (Machine.forEach l f s) :=
  forEach_induct (P := TuneKept s) l (fun a _ t ht => ht.trans (h a t)) (.refl s)

theorem enterStop_tune (st : Style) (x : Channel) : SameTune x (enterStop st x) := ⟨rfl, rfl, rfl⟩

theorem seedProfile_tune (x : Channel) : SameTune x (seedProfile x) := by
  unfold seedProfile
  split <;> exact ⟨rfl, rfl, rfl⟩

theorem enterSetpoint_tune (sp : MotorSetpoint) (x : Channel) : SameTune x (enterSetpoint sp x) := by
  obtain ⟨params, pending, leff⟩ := seedProfile_tune x
  cases sp with
  | position => exact ⟨params, pending, leff⟩
  | hold => exact ⟨params, pending, leff⟩
  | follow => exact ⟨params, pending, leff⟩
  | _ => exact ⟨rfl, rfl, rfl⟩

theorem raiseEvent_tune (k : EventKind) (b : Byte) (a : Word) (s : State) : TuneKept s (raiseEvent k b a s) :=
  .of_chans (by simp)

theorem tellCondition_tune (k : Fin 8) (b : Bool) (s : State) : TuneKept s (tellCondition k b s) where
  chan c := by
    rcases (tellCondition_told k b s).chan c with h | ⟨st, h⟩ <;> rw [h] <;> exact ⟨rfl, rfl, rfl⟩

theorem releaseChannel_tune (k : Fin 8) (c : Fin 4) (s : State) : TuneKept s (releaseChannel k c s) := by
  unfold releaseChannel
  simp only
  split
  · obtain ⟨params, pending, leff⟩ :=
      enterSetpoint_tune .hold { s.chan c with tripHolders := (s.chan c).tripHolders &&& ~~~ holderBit k }
    exact .setChan ⟨params, pending, leff⟩
  · exact .setChan ⟨rfl, rfl, rfl⟩

theorem releaseHolds_tune (k : Fin 8) (a : WatchAction) (s : State) : TuneKept s (releaseHolds k a s) := by
  unfold releaseHolds
  split
  · exact .forEach _ (releaseChannel_tune k) s
  · exact .forEach _ (releaseChannel_tune k) s
  · split
    · exact .refl s
    · exact tellCondition_tune ..
  · exact .refl s

theorem rearmIf_tune (k : Fin 8) (s : State) : TuneKept s (rearmIf k s) := by
  unfold rearmIf
  split
  · split
    · unfold rearmWatch
      simp only
      split
      · exact (releaseHolds_tune ..).after rfl
      · exact .of_chans rfl
    · exact .refl s
  · exact .refl s

theorem startAction_chans (s : State) : (startAction s).chans = s.chans := by
  unfold startAction
  split
  · unfold takeNote
    simp only
    split <;> simp
  · simp [soundDone]
  · rfl

theorem applyAction_tune {a : CueAction} {s t : State} (h : applyAction a s = .ok t) : TuneKept s t := by
  unfold applyAction at h
  split at h
  · split at h
    · cases h
    · split at h
      · split at h
        · cases h
        · cases h
          exact .setChan (enterSetpoint_tune ..)
      · cases h
        exact .setChan (enterSetpoint_tune ..)
  · split at h
    · cases h
    · cases h
      exact .of_chans (startAction_chans s)
  · split at h
    · cases h
    · cases h
      exact .of_chans rfl
  · cases h
    rw [takeSnapshots_eq]
    exact .of_chans rfl
  · cases h
    exact .forEach _ rearmIf_tune s

theorem applyEntries_tune (n : Nat) (es : List CueEntry) (s : State) : TuneKept s (applyEntries n es s).1 := by
  induction es generalizing s with
  | nil => exact .refl s
  | cons e es ih =>
    by_cases h : e.cue = n
    · cases ha : applyAction e.action s with
      | ok t =>
        rw [applyEntries_applied h ha]
        exact (applyAction_tune ha).trans (ih t)
      | error why =>
        rw [applyEntries_refused h ha]
        exact (raiseEvent_tune ..).trans (ih _)
    · rw [applyEntries_other h]
      exact ih s

theorem takeCueFrame_tune (p : List Byte) (s : State) : TuneKept s (takeCueFrame p s) := by
  unfold takeCueFrame
  split
  · split
    · rw [takeCue_eq]
      refine TuneKept.trans ?_ (raiseEvent_tune ..)
      exact (applyEntries_tune _ s.cue.table s).trans (.of_chans rfl)
    · exact .refl s
  · exact .refl s

theorem watchCue_tune (k : Fin 8) (m c : Byte) (s : State) : TuneKept s (watchCue k m c s) := by
  unfold watchCue
  split
  · exact takeCueFrame_tune ..
  · simp only
    split
    · exact .of_chans (offer_chans ..)
    · exact (raiseEvent_tune ..).after (offer_chans ..)

theorem tripChannel_tune (k : Fin 8) (st : Style) (c : Fin 4) (s : State) : TuneKept s (tripChannel k st c s) :=
  .setChan ⟨rfl, rfl, rfl⟩

theorem watchAct_tune (k : Fin 8) (a : WatchAction) (s : State) : TuneKept s (watchAct k a s) := by
  unfold watchAct
  split
  · exact .refl s
  · exact watchCue_tune ..
  · exact .of_chans rfl
  · exact .forEach _ (tripChannel_tune k _) s
  · exact .forEach _ (tripChannel_tune k _) s
  · split
    · exact .refl s
    · exact tellCondition_tune ..

theorem watchFire_tune (k : Fin 8) (w : Watch) (v : Word) (s : State) : TuneKept s (watchFire k w v s) := by
  unfold watchFire
  split
  all_goals
    refine TuneKept.trans ?_ (watchAct_tune ..)
    exact (raiseEvent_tune ..).after rfl

theorem evaluate_tune (k : Fin 8) (w : Watch) (v : Word) (s : State) : TuneKept s (evaluate k w v s) := by
  unfold evaluate
  split
  · split
    · exact watchFire_tune ..
    · exact .of_chans rfl
  · split
    · split <;> exact .of_chans rfl
    · exact .of_chans rfl

theorem evaluateAt_tune (u : Update) (k : Fin 8) (s : State) : TuneKept s (evaluateAt u k s) := by
  unfold evaluateAt
  split
  · split
    · split
      · exact evaluate_tune ..
      · exact .refl s
    · exact .refl s
  · exact .refl s

theorem watchUpdate_tune (u : Update) (s : State) : TuneKept s (watchUpdate u s) :=
  .forEach all8 (evaluateAt_tune u) s

end Sys2Proof.Machine
end

section
/-! PROOFS. The control period: adoption, the stages in their order, foldback and output (R77 to R92). -/

namespace Sys2Proof.Machine

/-! ## The limit stage and the output (R87 to R92) -/

/-- The end of a period from a base state, a record x for channel c and an output u, where `leff` and `n` are the Leff and
the stall count the limit stage gives (R88, R90 to R92). -/
def periodEnd (c : Fin 4) (leff n : Nat) (base : State) (x : Channel) (u : Int) : State :=
  let t := tellCondition (srcStall c) (decide (n = x.params.stallTime)) (base.setChan c { x with leff := leff, stall := n })
  t.modChan c (outputStage (clampAbs leff u))

theorem outputStages_eq (c : Fin 4) (current : Nat) (base : State) (x : Channel) (u : Int) :
    outputStages c current (base.setChan c x, u) =
      periodEnd c (limitStage (min 4000 current) (base.supply.state == .sag) x).leff
        (limitStage (min 4000 current) (base.supply.state == .sag) x).stall base x u := by
  have limited : (base.setChan c x).modChan c (limitStage (min 4000 current) (base.supply.state == .sag)) =
      base.setChan c (limitStage (min 4000 current) (base.supply.state == .sag) x) := by
    rw [modChan_eq (by rw [chan_setChan_self]), setChan_setChan]
  have folded : foldbackStage c current (base.setChan c x) = tellCondition (srcStall c)
      (decide ((limitStage (min 4000 current) (base.supply.state == .sag) x).stall = x.params.stallTime))
      (base.setChan c (limitStage (min 4000 current) (base.supply.state == .sag) x)) := by
    simp only [foldbackStage, setChan_supply, limited, chan_setChan_self]
    rfl
  have leff := ((tellCondition_tune (srcStall c)
    (decide ((limitStage (min 4000 current) (base.supply.state == .sag) x).stall = x.params.stallTime))
    (base.setChan c (limitStage (min 4000 current) (base.supply.state == .sag) x))).chan c).leff
  rw [chan_setChan_self] at leff
  simp only [outputStages, folded, leff]
  rfl

/-- What the limit stage reads of a channel. -/
structure SameLimits (x y : Channel) : Prop where
  kind : y.kind = x.kind
  params : y.params = x.params
  speed : y.speed = x.speed
  leff : y.leff = x.leff
  stall : y.stall = x.stall

theorem SameLimits.limitStage {x y : Channel} (h : SameLimits x y) (i : Nat) (sag : Bool) :
    (limitStage i sag y).leff = (limitStage i sag x).leff ∧ (limitStage i sag y).stall = (limitStage i sag x).stall := by
  have ceil : ceiling sag y = ceiling sag x := by rw [ceiling, ceiling, h.params]
  have fold : foldback i (ceiling sag x) y = foldback i (ceiling sag x) x := by rw [foldback, foldback, h.params, h.leff]
  have period (leff : Nat) : stallPeriod i (ceiling sag x) leff y = stallPeriod i (ceiling sag x) leff x := by
    rw [stallPeriod, stallPeriod, h.params, h.kind, h.speed]
  simp only [Machine.limitStage, ceil, fold, period, h.params, h.stall, and_self]

/-- The end of a period whose limit stage reads the channel as it stands in s. -/
def stageOut (c : Fin 4) (current : Nat) (s base : State) (x : Channel) (u : Int) : State :=
  let y := limitStage (min 4000 current) (s.supply.state == .sag) (s.chan c)
  periodEnd c y.leff y.stall base x u

theorem outputStages_stageOut {c : Fin 4} {s base : State} {x : Channel} (hb : base.supply = s.supply)
    (hx : SameLimits (s.chan c) x) (current : Nat) (u : Int) :
    outputStages c current (base.setChan c x, u) = stageOut c current s base x u := by
  rw [outputStages_eq, hb, (hx.limitStage ..).1, (hx.limitStage ..).2]
  rfl

theorem compareOf_eq (d : Int) : compareOf d = if d.natAbs < 4 then 0 else 2 * d.natAbs := by
  unfold compareOf
  split <;> split <;> omega

theorem outputStage_eq (leff : Nat) (u : Int) (ch : Channel) : outputStage (clampAbs leff u) ch =
    let d := if ch.mode = .coast ∨ ch.mode = .brake then 0 else max (-(leff : Int)) (min leff u)
    { ch with
      duty := d, nextC := if d.natAbs < 4 then 0 else 2 * d.natAbs,
      nextDir := if 0 < d then .forward else if d < 0 then .reverse else ch.nextDir } := by
  simp only [outputStage, compareOf_eq, dirOf, clampAbs_eq, stopped_eq_true]

theorem ceiling_eq (x : SupplyState) (ch : Channel) :
    ceiling (x == .sag) ch = if x = .sag then min ch.params.limit 800 else ch.params.limit := by
  simp only [ceiling, beq_iff_eq]

theorem stallPeriod_eq_true (i ceil leff : Nat) (ch : Channel) : stallPeriod i ceil leff ch = true ↔
    ch.params.ilim < i ∧ leff = floorOf ceil ∧ (ch.kind = .plain ∨ ch.speed.natAbs < 4) := by
  simp [stallPeriod, and_assoc]

theorem limitStage_stall (i : Nat) (sag : Bool) (ch : Channel) : (limitStage i sag ch).stall =
    if ch.params.ilim < i ∧ (limitStage i sag ch).leff = min 100 (ceiling sag ch) ∧
        (ch.kind = .plain ∨ ch.speed.natAbs < 4)
    then min ch.params.stallTime (ch.stall + 1) else 0 := by
  exact if_congr (stallPeriod_eq_true ..) rfl rfl

/-! ## The middle stages (R67 to R86) -/

theorem heldPeriod_eq_true (c : Fin 4) (s : State) : heldPeriod c s = true ↔
    (s.chan c).mode = .coast ∨ (s.chan c).mode = .brake ∨ (s.chan c).haltFlag = true ∨ (s.chan c).tripHolders ≠ 0 ∨
      s.supply.state = .brownout := by
  simp [heldPeriod, stopped_eq_true, or_assoc]

theorem middleStages_held {c : Fin 4} {s : State} (h : heldPeriod c s = true) :
    middleStages c s = (s.setChan c { s.chan c with settle := 0, integ := 0 }, 0) := by
  exact if_pos h

theorem followStage_other {c : Fin 4} {s : State} (h : ∀ r g, (s.chan c).mode ≠ .follow r g) : followStage c s = s := by
  unfold followStage
  split
  · exact absurd ‹_› (h _ _)
  · rfl

theorem settleStage_other {c : Fin 4} {s : State} (h : ∀ g, (s.chan c).mode ≠ .position g) : settleStage c s = s := by
  unfold settleStage
  cases hm : (s.chan c).mode with
  | position g => exact absurd hm (h g)
  | _ => simp only [hm]

theorem profileStage_goal {ch : Channel} {g : Word} (h : ch.mode.goal = some g) :
    profileStage ch = advance (profileSpeed ch.params.acc ch.params.vmax (distance g ch.tc ch.tf) ch.v) ch := by
  unfold profileStage
  rw [h]

theorem profileStage_none {ch : Channel} (h : ch.mode.goal = none) : profileStage ch = ch := by
  unfold profileStage
  rw [h]

/-- A mode that closes a loop is regulated to the reference of stage 6 (R85). -/
theorem driveStage_refStage {ch : Channel} (h : ch.mode.goal.isSome = true ∨ ∃ v, ch.mode = .speed v) (vbat : Nat) :
    driveStage vbat (refStage ch) =
      ({ refStage ch with integ := (regulate (refStage ch)).1 }, (regulate (refStage ch)).2) := by
  have mode : (refStage ch).mode = ch.mode := by
    unfold refStage
    split <;> rfl
  unfold driveStage
  split
  case h_4 => rfl
  all_goals
    rename_i hm
    rw [← mode, hm] at h
    simp [ChanMode.goal] at h

theorem refStage_limits (ch : Channel) : SameLimits ch (refStage ch) := by
  unfold refStage
  split <;> exact ⟨rfl, rfl, rfl, rfl, rfl⟩

/-- The end of a regulated period from a base state and the record y that the earlier stages left. -/
def regulatedOut (c : Fin 4) (current : Nat) (s base : State) (y : Channel) : State :=
  stageOut c current s base { refStage y with integ := (regulate (refStage y)).1 } (regulate (refStage y)).2

/-- Stages 6 and 7 (R83 to R86). -/
def finishStages (c : Fin 4) (s : State) : State × Int :=
  (s.setChan c (driveStage s.supply.vbat (refStage (s.chan c))).1,
    (driveStage s.supply.vbat (refStage (s.chan c))).2)

/-- Stages 6 to 9 once y is the channel's record and base the state but for it. -/
theorem outputStages_regulated {c : Fin 4} {s base : State} {y : Channel} (hb : base.supply = s.supply)
    (hy : SameLimits (s.chan c) y) (closed : y.mode.goal.isSome = true ∨ ∃ v, y.mode = .speed v) (current : Nat) :
    outputStages c current (finishStages c (base.setChan c y)) = regulatedOut c current s base y := by
  obtain ⟨kind, params, speed, leff, stall⟩ := refStage_limits y
  rw [finishStages, chan_setChan_self, driveStage_refStage closed, setChan_setChan]
  exact outputStages_stageOut (x := { refStage y with integ := (regulate (refStage y)).1 }) hb
    ⟨kind.trans hy.kind, params.trans hy.params, speed.trans hy.speed, leff.trans hy.leff, stall.trans hy.stall⟩ current _

theorem middleStages_free {c : Fin 4} {s : State} (free : heldPeriod c s ≠ true) :
    middleStages c s = finishStages c (settleStage c ((followStage c s).modChan c profileStage)) := if_neg free

section Modes

variable {c : Fin 4} {s : State}

/-- The record of a channel once the profile stage has moved its target toward a goal (R80 to R82). -/
def movedTo (goal : Word) (x : Channel) : Channel :=
  advance (profileSpeed x.params.acc x.params.vmax (distance goal x.tc x.tf) x.v) x

theorem movedTo_limits (goal : Word) (x : Channel) : SameLimits x (movedTo goal x) := ⟨rfl, rfl, rfl, rfl, rfl⟩

theorem movedTo_mode (goal : Word) (x : Channel) : (movedTo goal x).mode = x.mode := rfl

theorem profileStage_moves {g : Word} (h : (s.chan c).mode.goal = some g) :
    s.modChan c profileStage = s.setChan c (movedTo g (s.chan c)) := modChan_eq (profileStage_goal h)

theorem profileStage_stays (h : (s.chan c).mode.goal = none) : s.modChan c profileStage = s := by
  rw [modChan_eq (profileStage_none h), setChan_chan]

theorem period_openDrive (free : heldPeriod c s ≠ true) {d : Int} (h : (s.chan c).mode = .openDrive d) (current : Nat) :
    outputStages c current (middleStages c s) =
      stageOut c current s s (s.chan c) (openDuty (s.chan c).leff d s.supply.vbat) := by
  have open_drive : driveStage s.supply.vbat (refStage (s.chan c)) =
      (s.chan c, openDuty (s.chan c).leff d s.supply.vbat) := by
    have ref : refStage (s.chan c) = s.chan c := by
      unfold refStage
      rw [h]
    rw [ref, driveStage, h]
  rw [middleStages_free free, followStage_other (by simp [h]), profileStage_stays (by rw [h]; rfl),
    settleStage_other (by simp [h]), finishStages, open_drive]
  exact outputStages_stageOut rfl ⟨rfl, rfl, rfl, rfl, rfl⟩ current _

theorem period_speed (free : heldPeriod c s ≠ true) {v : Int} (h : (s.chan c).mode = .speed v) (current : Nat) :
    outputStages c current (middleStages c s) = regulatedOut c current s s (s.chan c) := by
  rw [middleStages_free free, followStage_other (by simp [h]), profileStage_stays (by rw [h]; rfl),
    settleStage_other (by simp [h])]
  nth_rw 1 [← setChan_chan c s]
  exact outputStages_regulated rfl ⟨rfl, rfl, rfl, rfl, rfl⟩ (.inr ⟨v, h⟩) current

theorem period_hold (free : heldPeriod c s ≠ true) {g : Word} (h : (s.chan c).mode = .hold g) (current : Nat) :
    outputStages c current (middleStages c s) = regulatedOut c current s s (movedTo g (s.chan c)) := by
  have mode : (movedTo g (s.chan c)).mode = .hold g := (movedTo_mode ..).trans h
  rw [middleStages_free free, followStage_other (by simp [h]), profileStage_moves (by rw [h]; rfl),
    settleStage_other (by simp [mode])]
  exact outputStages_regulated rfl (movedTo_limits ..) (.inl (by rw [mode]; rfl)) current

/-- The settle counter of a period in POSITION (R70). -/
def settleCount (g : Word) (x : Channel) : Nat :=
  if x.tc = g ∧ x.tf = 0 ∧ x.v = 0 ∧ (wrapDiff g x.position).natAbs ≤ x.params.tolerance then min 20 (x.settle + 1) else 0

/-- The record of a channel in POSITION once the settle stage has counted the period (R70). -/
def settledIn (g : Word) (x : Channel) : Channel :=
  { x with settle := settleCount g x, moveDone := x.moveDone || decide (settleCount g x = 20) }

theorem settled_eq_true (g : Word) (x : Channel) : settled g x = true ↔
    x.tc = g ∧ x.tf = 0 ∧ x.v = 0 ∧ (wrapDiff g x.position).natAbs ≤ x.params.tolerance := by
  simp [settled, profileDone, and_assoc]

theorem settleStage_position {g : Word} (h : (s.chan c).mode = .position g) :
    settleStage c s = if settleCount g (s.chan c) = 20 ∧ (s.chan c).moveDone = false then
        raiseEvent .moveDone (toByte c.val) (s.chan c).position (s.setChan c (settledIn g (s.chan c)))
      else s.setChan c (settledIn g (s.chan c)) := by
  have count : (if settled g (s.chan c) = true then min 20 ((s.chan c).settle + 1) else 0) = settleCount g (s.chan c) :=
    if_congr (settled_eq_true ..) rfl rfl
  simp only [settleStage, h, settledIn, count]
  by_cases done : settleCount g (s.chan c) = 20
  · cases hm : (s.chan c).moveDone <;> simp [done]
  · simp [done]

theorem period_position (free : heldPeriod c s ≠ true) {g : Word} (h : (s.chan c).mode = .position g) (current : Nat) :
    outputStages c current (middleStages c s) =
      let x := movedTo g (s.chan c)
      regulatedOut c current s
        (if settleCount g x = 20 ∧ (s.chan c).moveDone = false then
          raiseEvent .moveDone (toByte c.val) (s.chan c).position (s.setChan c (settledIn g x)) else s) (settledIn g x) := by
  show _ = regulatedOut c current s (if settleCount g (movedTo g (s.chan c)) = 20 ∧ _ then _ else s) _
  generalize hx : movedTo g (s.chan c) = x
  have mode : x.mode = .position g := by rw [← hx, movedTo_mode, h]
  have limits : SameLimits (s.chan c) (settledIn g x) := by
    rw [← hx]
    exact ⟨rfl, rfl, rfl, rfl, rfl⟩
  have closed : (settledIn g x).mode.goal.isSome = true := by
    show x.mode.goal.isSome = true
    rw [mode]
    rfl
  rw [middleStages_free free, followStage_other (by simp [h]), profileStage_moves (by rw [h]; rfl), hx,
    settleStage_position (by rw [chan_setChan_self, mode]), chan_setChan_self, setChan_setChan]
  have moveDone : x.moveDone = (s.chan c).moveDone := hx ▸ rfl
  have position : x.position = (s.chan c).position := hx ▸ rfl
  rw [moveDone, position]
  split
  · have at_c : (raiseEvent .moveDone (toByte c.val) (s.chan c).position (s.setChan c (settledIn g x))).chan c =
        settledIn g x := by rw [chan_raiseEvent, chan_setChan_self]
    have same := setChan_chan c (raiseEvent .moveDone (toByte c.val) (s.chan c).position (s.setChan c (settledIn g x)))
    rw [at_c] at same
    nth_rw 1 [← same]
    exact outputStages_regulated (by simp) limits (.inl closed) current
  · exact outputStages_regulated rfl limits (.inl closed) current

/-- The record of a channel in FOLLOW once its source has given a goal (R67). -/
def given (r : FollowRec) (g : Word) (x : Channel) : Channel := { x with mode := .follow r g, lapse := false }

/-- The record of a channel in a lapse of its source (R68). -/
def lapsed (x : Channel) : Channel := { x with lapse := true }

theorem followStage_value {r : FollowRec} {g x : Word} (h : (s.chan c).mode = .follow r g)
    (hx : readSource r.source s = .value x) : followStage c s = s.setChan c (given r (goalOf r x) (s.chan c)) := by
  simp only [followStage, h, hx]
  rfl

theorem followStage_lapse {r : FollowRec} {g : Word} {cause : Nat} (h : (s.chan c).mode = .follow r g)
    (hx : readSource r.source s = .lapse cause) : followStage c s = if (s.chan c).lapse then s
      else raiseEvent .sourceStale (toByte c.val) (toWord cause) (s.setChan c (lapsed (s.chan c))) := by
  simp only [followStage, h, hx]
  rfl

theorem period_follow_value (free : heldPeriod c s ≠ true) {r : FollowRec} {g x : Word}
    (h : (s.chan c).mode = .follow r g) (hx : readSource r.source s = .value x) (current : Nat) :
    outputStages c current (middleStages c s) =
      regulatedOut c current s s (movedTo (goalOf r x) (given r (goalOf r x) (s.chan c))) := by
  have mode : (given r (goalOf r x) (s.chan c)).mode = .follow r (goalOf r x) := rfl
  have limits : SameLimits (s.chan c) (given r (goalOf r x) (s.chan c)) := ⟨rfl, rfl, rfl, rfl, rfl⟩
  rw [middleStages_free free, followStage_value h hx]
  generalize given r (goalOf r x) (s.chan c) = y at mode limits
  obtain ⟨kind, params, speed, leff, stall⟩ := limits
  rw [profileStage_moves (by rw [chan_setChan_self, mode]; rfl), chan_setChan_self, setChan_setChan,
    settleStage_other (by simp [movedTo_mode, mode])]
  have closed : (movedTo (goalOf r x) y).mode.goal.isSome = true := by
    rw [movedTo_mode, mode]
    rfl
  exact outputStages_regulated (y := movedTo _ y) rfl ⟨kind, params, speed, leff, stall⟩ (.inl closed) current

theorem period_follow_lapse (free : heldPeriod c s ≠ true) {r : FollowRec} {g : Word} {cause : Nat}
    (h : (s.chan c).mode = .follow r g) (hx : readSource r.source s = .lapse cause) (current : Nat) :
    outputStages c current (middleStages c s) = regulatedOut c current s
      (if (s.chan c).lapse then s
      else raiseEvent .sourceStale (toByte c.val) (toWord cause) (s.setChan c (lapsed (s.chan c))))
      (movedTo g (lapsed (s.chan c))) := by
  have mode : (lapsed (s.chan c)).mode = .follow r g := h
  have limits : SameLimits (s.chan c) (lapsed (s.chan c)) := ⟨rfl, rfl, rfl, rfl, rfl⟩
  rw [middleStages_free free, followStage_lapse h hx]
  generalize hb : (if (s.chan c).lapse then s
    else raiseEvent .sourceStale (toByte c.val) (toWord cause) (s.setChan c (lapsed (s.chan c)))) = base
  have at_c : base.chan c = lapsed (s.chan c) ∧ base.supply = s.supply := by
    cases hl : (s.chan c).lapse with
    | true =>
      rw [hl, if_pos rfl] at hb
      exact ⟨by rw [← hb, lapsed, ← hl], by rw [hb]⟩
    | false =>
      rw [hl, if_neg Bool.false_ne_true] at hb
      exact ⟨by rw [← hb, chan_raiseEvent, chan_setChan_self], by rw [← hb, raiseEvent_supply, setChan_supply]⟩
  generalize lapsed (s.chan c) = y at mode limits at_c
  obtain ⟨kind, params, speed, leff, stall⟩ := limits
  obtain ⟨at_c, supply⟩ := at_c
  rw [profileStage_moves (by rw [at_c, mode]; rfl), at_c, settleStage_other (by simp [movedTo_mode, mode])]
  have closed : (movedTo g y).mode.goal.isSome = true := by
    rw [movedTo_mode, mode]
    rfl
  exact outputStages_regulated (y := movedTo _ y) supply ⟨kind, params, speed, leff, stall⟩ (.inl closed) current

end Modes

/-! ## What the stages leave -/

/-- The shared fields and every channel's parameters and limit as they were. -/
structure PeriodKept (s t : State) : Prop where
  keeps : Keeps s t
  tune : TuneKept s t

theorem PeriodKept.refl (s : State) : PeriodKept s s := ⟨.refl s, .refl s⟩

theorem PeriodKept.trans {s t u : State} (h : PeriodKept s t) (k : PeriodKept t u) : PeriodKept s u :=
  ⟨h.keeps.trans k.keeps, h.tune.trans k.tune⟩

theorem PeriodKept.setChan {c : Fin 4} {x : Channel} {s : State} (h : SameTune (s.chan c) x) :
    PeriodKept s (s.setChan c x) := ⟨modChan_keeps c (fun _ => x) s, .setChan h⟩

theorem raiseEvent_periodKept (k : EventKind) (b : Byte) (a : Word) (s : State) : PeriodKept s (raiseEvent k b a s) :=
  ⟨raiseEvent_keeps .., raiseEvent_tune ..⟩

theorem measureStage_periodKept (c : Fin 4) (s : State) : PeriodKept s (measureStage c s) := by
  have measured : PeriodKept s (s.modChan c measure) := .setChan ⟨rfl, rfl, rfl⟩
  unfold measureStage
  simp only
  split
  · exact measured.trans ⟨watchUpdate_keeps .., watchUpdate_tune ..⟩
  · exact measured

theorem followStage_periodKept (c : Fin 4) (s : State) : PeriodKept s (followStage c s) := by
  unfold followStage
  split
  · split
    · exact .setChan ⟨rfl, rfl, rfl⟩
    · split
      · exact .refl s
      · refine PeriodKept.trans ?_ (raiseEvent_periodKept ..)
        exact .setChan ⟨rfl, rfl, rfl⟩
  · exact .refl s

theorem profileStage_tune (x : Channel) : SameTune x (profileStage x) := by
  unfold profileStage
  split <;> exact ⟨rfl, rfl, rfl⟩

theorem settleStage_periodKept (c : Fin 4) (s : State) : PeriodKept s (settleStage c s) := by
  by_cases h : ∃ g, (s.chan c).mode = .position g
  · obtain ⟨g, hg⟩ := h
    rw [settleStage_position hg]
    split
    · refine PeriodKept.trans ?_ (raiseEvent_periodKept ..)
      exact .setChan ⟨rfl, rfl, rfl⟩
    · exact .setChan ⟨rfl, rfl, rfl⟩
  · rw [settleStage_other fun g hg => h ⟨g, hg⟩]
    exact .refl s

theorem refStage_tune (x : Channel) : SameTune x (refStage x) := by
  unfold refStage
  split <;> exact ⟨rfl, rfl, rfl⟩

theorem driveStage_tune (v : Nat) (x : Channel) : SameTune x (driveStage v x).1 := by
  unfold driveStage
  split <;> exact ⟨rfl, rfl, rfl⟩

theorem finishStages_periodKept (c : Fin 4) (s : State) : PeriodKept s (finishStages c s).1 := by
  obtain ⟨params, pending, leff⟩ := refStage_tune (s.chan c)
  obtain ⟨params', pending', leff'⟩ := driveStage_tune s.supply.vbat (refStage (s.chan c))
  exact .setChan ⟨params'.trans params, pending'.trans pending, leff'.trans leff⟩

theorem middleStages_periodKept (c : Fin 4) (s : State) : PeriodKept s (middleStages c s).1 := by
  by_cases held : heldPeriod c s = true
  · rw [middleStages_held held]
    exact .setChan ⟨rfl, rfl, rfl⟩
  · rw [middleStages_free held]
    refine PeriodKept.trans ?_ (finishStages_periodKept ..)
    refine PeriodKept.trans ?_ (settleStage_periodKept ..)
    exact (followStage_periodKept c s).trans (.setChan (profileStage_tune _))

/-! ## A whole period -/

theorem exec_controlPeriodExpiry {c : Fin 4} {s : State} (h : s.inReset = false) (current : Nat) :
    exec (.controlPeriodExpiry c current) s = .next (controlPeriod c current s) := by
  rw [show exec (.controlPeriodExpiry c current) s = execControlPeriodExpiry c current s from rfl,
    execControlPeriodExpiry, if_neg (by simp [h])]

theorem adoptParams_none {x : Channel} (h : x.pendingParams = none) : adoptParams x = x := by
  unfold adoptParams
  rw [h]

theorem adoptParams_pending (x : Channel) : (adoptParams x).pendingParams = none := by
  cases h : x.pendingParams with
  | none => rw [adoptParams_none h, h]
  | some p =>
    simp only [adoptParams, h]
    rw [lowerLimit_eq]

theorem adoptParams_leff_le (x : Channel) : (adoptParams x).leff ≤ x.leff := by
  cases h : x.pendingParams with
  | none => rw [adoptParams_none h]
  | some p =>
    simp only [adoptParams, h]
    rw [lowerLimit_leff]
    exact Nat.min_le_right ..

theorem periodEnd_keeps (c : Fin 4) (leff n : Nat) (base : State) (x : Channel) (u : Int) :
    Keeps base (periodEnd c leff n base x u) := by
  refine Keeps.trans ?_ (modChan_keeps ..)
  refine Keeps.trans ?_ (tellCondition_keeps ..)
  exact modChan_keeps c (fun _ => { x with leff := leff, stall := n }) base

theorem periodEnd_chan (c : Fin 4) (leff n : Nat) (base : State) (x : Channel) (u : Int) :
    ∃ z, SameTune { x with leff := leff, stall := n } z ∧
      (periodEnd c leff n base x u).chan c = outputStage (clampAbs leff u) z := by
  have kept := (tellCondition_tune (srcStall c) (decide (n = x.params.stallTime))
    (base.setChan c { x with leff := leff, stall := n })).chan c
  rw [chan_setChan_self] at kept
  exact ⟨_, kept, chan_modChan_self ..⟩

theorem outputStages_pair (c : Fin 4) (current : Nat) (r : State × Int) : outputStages c current r =
    periodEnd c (limitStage (min 4000 current) (r.1.supply.state == .sag) (r.1.chan c)).leff
      (limitStage (min 4000 current) (r.1.supply.state == .sag) (r.1.chan c)).stall r.1 (r.1.chan c) r.2 := by
  have ends := outputStages_eq c current r.1 (r.1.chan c) r.2
  rwa [setChan_chan] at ends

/-- The channel at the end of a control period: the limit stage of what the middle stages left, then the output stage. -/
theorem controlPeriod_end (c : Fin 4) (current : Nat) (s : State) : Keeps s (controlPeriod c current s) ∧ ∃ x z u,
    SameTune (adoptParams (s.chan c)) x ∧ SameTune (limitStage (min 4000 current) (s.supply.state == .sag) x) z ∧
    (controlPeriod c current s).chan c =
      outputStage (clampAbs (limitStage (min 4000 current) (s.supply.state == .sag) x).leff u) z := by
  obtain ⟨keeps, tune⟩ : PeriodKept (s.modChan c adoptParams) (middleStages c (sampleStages c s)).1 :=
    (measureStage_periodKept ..).trans (middleStages_periodKept ..)
  have keeps := (modChan_keeps c adoptParams s).trans keeps
  have tune := tune.chan c
  rw [chan_modChan_self] at tune
  rw [controlPeriod, outputStages_pair, keeps.supply]
  obtain ⟨z, kept, ends⟩ := periodEnd_chan c
    (limitStage (min 4000 current) (s.supply.state == .sag) ((middleStages c (sampleStages c s)).1.chan c)).leff
    (limitStage (min 4000 current) (s.supply.state == .sag) ((middleStages c (sampleStages c s)).1.chan c)).stall
    (middleStages c (sampleStages c s)).1 ((middleStages c (sampleStages c s)).1.chan c)
    (middleStages c (sampleStages c s)).2
  exact ⟨keeps.trans (periodEnd_keeps ..), _, z, _, tune, kept, ends⟩

theorem limitStage_leff_le (i : Nat) (sag : Bool) (x : Channel) :
    (limitStage i sag x).leff ≤ x.params.limit ∧ (sag = true → (limitStage i sag x).leff ≤ 800) := by
  obtain ⟨limit, cap⟩ := ceiling_le sag x
  have fold := (foldback_bounds i (ceiling sag x) x).1
  exact ⟨fold.trans limit, fun h => fold.trans (cap h)⟩

/-- A current above Ilim lowers Leff by 50 to the floor (R88). -/
theorem limitStage_overcurrent {i : Nat} {x : Channel} (h : x.params.ilim < i) (hl : x.leff ≤ x.params.limit) :
    (limitStage i false x).leff =
      if x.leff ≤ min 100 x.params.limit then x.leff else max (x.leff - 50) (min 100 x.params.limit) := by
  show foldback i (ceiling false x) x = _
  have ceil : ceiling false x = x.params.limit := rfl
  rw [foldback, if_pos h, ceil, floorOf]
  split <;> omega

theorem outputStage_facts (v : Int) (z : Channel) :
    let ch := outputStage v z
    ch.nextC = (if ch.duty.natAbs < 4 then 0 else 2 * ch.duty.natAbs) ∧
    (0 < ch.duty → ch.nextDir = .forward) ∧ (ch.duty < 0 → ch.nextDir = .reverse) ∧
    (ch.mode = .coast ∨ ch.mode = .brake → ch.duty = 0) := by
  refine ⟨compareOf_eq _, fun forward => if_pos forward, fun reverse => ?_, fun stopped => if_pos ?_⟩
  · exact (if_neg (not_lt_of_gt reverse)).trans (if_pos reverse)
  · exact (stopped_eq_true _).2 stopped

/-- The bounds a control period ends with (R88, R92). -/
theorem controlPeriod_bounds (c : Fin 4) (current : Nat) (s : State) :
    let ch := (controlPeriod c current s).chan c
    ch.duty.natAbs ≤ ch.leff ∧ ch.leff ≤ ch.params.limit ∧
    (s.supply.state = .sag → ch.leff ≤ 800) ∧
    ch.nextC = (if ch.duty.natAbs < 4 then 0 else 2 * ch.duty.natAbs) ∧
    (0 < ch.duty → ch.nextDir = .forward) ∧ (ch.duty < 0 → ch.nextDir = .reverse) ∧
    (ch.mode = .coast ∨ ch.mode = .brake → ch.duty = 0) ∧ ch.pendingParams = none ∧
    (ch.params.ilim < current → ch.params.ilim < 4000 → ch.leff ≤ (s.chan c).leff ∧
      (s.supply.state ≠ .sag → (s.chan c).pendingParams = none → (s.chan c).leff ≤ (s.chan c).params.limit →
        ch.leff = if (s.chan c).leff ≤ min 100 ch.params.limit then (s.chan c).leff
          else max ((s.chan c).leff - 50) (min 100 ch.params.limit))) := by
  obtain ⟨-, x, z, u, ⟨xparams, xpending, xleff⟩, ⟨zparams, zpending, zleff⟩, ends⟩ := controlPeriod_end c current s
  obtain ⟨limit, cap⟩ := limitStage_leff_le (min 4000 current) (s.supply.state == .sag) x
  obtain ⟨nextC, forward, reverse, stopped⟩ :=
    outputStage_facts (clampAbs (limitStage (min 4000 current) (s.supply.state == .sag) x).leff u) z
  rw [ends]
  refine ⟨?_, ?_, fun sag => ?_, nextC, forward, reverse, stopped, ?_, fun high room => ?_⟩
  · rw [← zleff]
    exact outputStage_duty u z
  · exact (zleff.trans_le limit).trans_eq (congrArg Params.limit zparams.symm)
  · exact zleff.trans_le (cap (by simp [sag]))
  · exact zpending.trans (xpending.trans (adoptParams_pending _))
  · have current_over : x.params.ilim < min 4000 current := by
      have same : x.params = z.params := zparams.symm
      rw [same]
      exact lt_min room high
    have lowers := (foldback_bounds (min 4000 current) (ceiling (s.supply.state == .sag) x) x).2 current_over
    refine ⟨zleff.trans_le (lowers.trans (xleff.trans_le (adoptParams_leff_le _))), fun no_sag none_pending small => ?_⟩
    have adopted := adoptParams_none none_pending
    rw [adopted] at xleff xparams
    have sag : (s.supply.state == .sag) = false := by simpa using no_sag
    rw [sag] at zleff
    have exact_leff := limitStage_overcurrent current_over (by rw [xleff, xparams]; exact small)
    rw [xleff] at exact_leff
    have same : x.params = z.params := zparams.symm
    rw [same] at exact_leff
    exact zleff.trans exact_leff

theorem measure_eq (ch : Channel) : measure ch = { ch with
    speed := max (-32767) (min 32767 (wrapDiff ch.position (ch.history.get 0)))
    history := shiftIn ch.history ch.position } := by
  rw [measure, clampAbs_eq]
  rfl

theorem modChan_adoptParams {c : Fin 4} {s : State} (h : (s.chan c).pendingParams = none) :
    s.modChan c adoptParams = s := by
  rw [modChan_eq (adoptParams_none h), setChan_chan]

theorem stageOut_eq {c : Fin 4} {s : State} {x : Channel} (hp : x.params = (s.chan c).params) (current : Nat)
    (base : State) (u : Int) : stageOut c current s base x u =
      let ch := s.chan c
      let i := min 4000 current
      let ceil := if s.supply.state = .sag then min ch.params.limit 800 else ch.params.limit
      let leff := if ch.params.ilim < i then min ceil (min ch.leff (max (ch.leff - 50) (min 100 ceil)))
        else min ceil (ch.leff + 10)
      let n := if ch.params.ilim < i ∧ leff = min 100 ceil ∧ (ch.kind = .plain ∨ ch.speed.natAbs < 4)
        then min ch.params.stallTime (ch.stall + 1) else 0
      let t := tellCondition (srcStall c) (decide (n = ch.params.stallTime))
        (base.setChan c { x with leff := leff, stall := n })
      let d := if (t.chan c).mode = .coast ∨ (t.chan c).mode = .brake then 0 else max (-(leff : Int)) (min leff u)
      t.setChan c { t.chan c with
        duty := d, nextC := if d.natAbs < 4 then 0 else 2 * d.natAbs,
        nextDir := if 0 < d then .forward else if d < 0 then .reverse else (t.chan c).nextDir } := by
  have leff : (limitStage (min 4000 current) (s.supply.state == .sag) (s.chan c)).leff =
      foldback (min 4000 current) (ceiling (s.supply.state == .sag) (s.chan c)) (s.chan c) := rfl
  simp only [stageOut, periodEnd, limitStage_stall, leff, foldback, floorOf, ceiling_eq, hp, State.modChan, outputStage_eq]

/-! ## Adoption (R65, R89, R90) -/

theorem lowerLimit_full (n : Nat) (x : Channel) : lowerLimit n x = { x with
    leff := min x.leff n
    duty := if n < x.leff then max (-(n : Int)) (min n x.duty) else x.duty
    nextC := if n < x.leff ∧ n < x.duty.natAbs then (if n < 4 then 0 else 2 * n) else x.nextC } := by
  unfold lowerLimit
  by_cases caps : n < x.leff
  · have leff : min x.leff n = n := by omega
    simp only [if_pos caps, clampAbs_eq, leff]
    by_cases cuts : n < x.duty.natAbs
    · have size : (max (-(n : Int)) (min (n : Int) x.duty)).natAbs = n := by omega
      rw [if_pos cuts, if_pos ⟨caps, cuts⟩, compareOf_eq, size]
    · have kept : max (-(n : Int)) (min (n : Int) x.duty) = x.duty := by omega
      rw [if_neg cuts, if_neg fun h => cuts h.2, kept]
  · have leff : min x.leff n = x.leff := by omega
    rw [if_neg caps, if_neg caps, if_neg fun h => caps h.1, leff]

theorem adoptParams_some {x : Channel} {p : Params} (h : x.pendingParams = some p) : adoptParams x = { x with
    params := p, pendingParams := none, stall := min x.stall p.stallTime, leff := min x.leff p.limit
    mode := match x.mode with
      | .speed v => .speed (max (-(p.vmax : Int)) (min p.vmax v))
      | mode => mode
    duty := if p.limit < x.leff then max (-(p.limit : Int)) (min p.limit x.duty) else x.duty
    nextC := if p.limit < x.leff ∧ p.limit < x.duty.natAbs then (if p.limit < 4 then 0 else 2 * p.limit)
      else x.nextC } := by
  have mode : clampSetSpeed p.vmax x.mode = match x.mode with
      | .speed v => .speed (max (-(p.vmax : Int)) (min p.vmax v))
      | mode => mode := by
    cases x.mode with
    | speed v => exact congrArg _ (clampAbs_eq ..)
    | _ => rfl
  simp only [adoptParams, h, lowerLimit_full, mode]

theorem controlPeriod_adopts (c : Fin 4) (current : Nat) (s : State) :
    controlPeriod c current (s.setChan c (adoptParams (s.chan c))) = controlPeriod c current s := by
  have adopted : (s.setChan c (adoptParams (s.chan c))).modChan c adoptParams = s.modChan c adoptParams := by
    rw [modChan_adoptParams (by rw [chan_setChan_self, adoptParams_pending])]
    rfl
  rw [controlPeriod, controlPeriod, sampleStages, sampleStages, adopted]

/-! ## The STALL sources told (R91, R147, R148) -/

theorem stallChannel_stall (c : Fin 4) : stallChannel (srcStall c) = some c := by
  fin_cases c <;> rfl

theorem latch_eq (k : Fin 8) (s : State) : latch k s =
    react (toByte k.val) (stallChannel k) (s.source k).reaction (s.source k).style (s.source k).groups
      (if (s.source k).reaction = .none then s.setSource k { s.source k with state := .latched, timer := none }
      else raiseEvent .faultLatched (toByte k.val) ((s.source k).reaction.code.setWidth 32)
        (s.setSource k { s.source k with state := .latched, timer := none })) := by
  simp only [latch, sourceEvent, source_setSource_self]

theorem tellCondition_begins {k : Fin 8} {s : State} (h : (s.source k).condition = false) :
    tellCondition k true s = conditionBegin k s := by
  simp only [tellCondition, h]

theorem tellCondition_ends {k : Fin 8} {s : State} (h : (s.source k).condition = true) :
    tellCondition k false s = conditionEnd k s := by
  simp only [tellCondition, h]

/-- A condition that begins with no grace time latches at once (R147). -/
theorem conditionBegin_latches {k : Fin 8} {s : State} (hs : (s.source k).state = .inactive)
    (hg : (s.source k).grace = 0) : conditionBegin k s =
      latch k (s.setSource k { s.source k with condition := true }) := by
  simp only [conditionBegin, hs, hg]
  rfl

theorem conditionEnd_latched {k : Fin 8} {s : State} (hs : (s.source k).state = .latched) :
    conditionEnd k s = s.setSource k { s.source k with condition := false } := by
  simp only [conditionEnd, hs]

/-- A STALL source with CHANNEL_STOP halts its channel alone (R148). -/
theorem latch_stalled {c : Fin 4} {s : State} (hr : (s.source (srcStall c)).reaction = .channelStop) :
    latch (srcStall c) s = haltChannel c (s.source (srcStall c)).style (raiseEvent .faultLatched (toByte c.val) 2
      (s.setSource (srcStall c) { s.source (srcStall c) with state := .latched, timer := none })) := by
  rw [latch_eq, stallChannel_stall, hr, if_neg (by decide)]
  rfl

theorem tellCondition_stalls {c : Fin 4} {s : State} (quiet : (s.source (srcStall c)).condition = false)
    (inactive : (s.source (srcStall c)).state = .inactive) (grace : (s.source (srcStall c)).grace = 0)
    (reaction : (s.source (srcStall c)).reaction = .channelStop) : tellCondition (srcStall c) true s =
      haltChannel c (s.source (srcStall c)).style (raiseEvent .faultLatched (toByte c.val) 2 (s.setSource (srcStall c)
        { s.source (srcStall c) with condition := true, state := .latched, timer := none })) := by
  rw [tellCondition_begins quiet, conditionBegin_latches inactive grace,
    latch_stalled (by rw [source_setSource_self]; exact reaction), source_setSource_self, setSource_setSource]

/-! ## Held periods (R78) and the period of a trip (R123) -/

theorem controlPeriod_measured {c : Fin 4} {s : State} (h : (s.chan c).pendingParams = none) (current : Nat) :
    controlPeriod c current s = outputStages c current (middleStages c (measureStage c s)) := by
  rw [controlPeriod, sampleStages, modChan_adoptParams h]

theorem period_held {c : Fin 4} {s : State} (held : heldPeriod c s = true) (current : Nat) :
    outputStages c current (middleStages c s) =
      stageOut c current s s (heldStage (s.chan c)) 0 := by
  rw [middleStages_held held]
  exact outputStages_stageOut (x := heldStage (s.chan c)) rfl ⟨rfl, rfl, rfl, rfl, rfl⟩ current 0

theorem clampAbs_zero (m : Nat) : clampAbs m 0 = 0 := by
  rw [clampAbs_eq]
  omega

theorem outputStage_zero (leff : Nat) (z : Channel) :
    outputStage (clampAbs leff 0) z = { z with duty := 0, nextC := 0 } := by
  rw [clampAbs_zero, outputStage, ite_self]
  rfl

theorem limitStage_within {i : Nat} {sag : Bool} {x : Channel} (h : i ≤ x.params.ilim) :
    (limitStage i sag x).leff = min (ceiling sag x) (x.leff + 10) ∧ (limitStage i sag x).stall = 0 :=
  ⟨if_neg (by omega), by rw [limitStage_stall, if_neg (by omega)]⟩

/-- A held period within Ilim that tells the fault unit nothing new (R78, R88, R90, R92). -/
theorem stageOut_quiet {c : Fin 4} {current : Nat} {s : State} (within : current ≤ (s.chan c).params.ilim)
    (quiet : (s.source (srcStall c)).condition = false) (stall : 1 ≤ (s.chan c).params.stallTime) :
    stageOut c current s s (heldStage (s.chan c)) 0 = s.setChan c { heldStage (s.chan c) with
      settle := 0, integ := 0, leff := min (ceiling (s.supply.state == .sag) (s.chan c)) ((s.chan c).leff + 10),
      stall := 0, duty := 0, nextC := 0 } := by
  obtain ⟨leff, none_stalled⟩ := limitStage_within (sag := s.supply.state == .sag)
    ((Nat.min_le_right 4000 current).trans within)
  have no_stall : decide (0 = (heldStage (s.chan c)).params.stallTime) = false :=
    decide_eq_false fun h => absurd (h ▸ stall : 1 ≤ 0) (by omega)
  have told (x : Channel) : tellCondition (srcStall c) false (s.setChan c x) = s.setChan c x := by
    have same := tellCondition_same (srcStall c) (s.setChan c x)
    rwa [show ((s.setChan c x).source (srcStall c)).condition = false from quiet] at same
  simp only [stageOut, periodEnd, leff, none_stalled, no_stall, told, State.modChan, chan_setChan_self, setChan_setChan,
    outputStage_zero]
  rfl

theorem measureStage_plain {c : Fin 4} {s : State} (h : (s.chan c).kind = .plain) :
    measureStage c s = s.setChan c (measure (s.chan c)) := if_neg (by rw [h]; decide)

theorem measureStage_encoded {c : Fin 4} {s : State} (h : (s.chan c).kind = .encoded) :
    measureStage c s = watchUpdate (.motor c) (s.setChan c (measure (s.chan c))) := if_pos h

theorem history_measure (ch : Channel) :
    (∀ i : Fin 7, (measure ch).history.get i.castSucc = ch.history.get i.succ) ∧ (measure ch).history.get 7 = ch.position := by
  refine ⟨fun i => ?_, ?_⟩
  · have inner : i.val + 1 < 8 := by omega
    simp [measure, shiftIn, Vector.get_eq_getElem, inner]
  · simp [measure, shiftIn, Vector.get_eq_getElem]

theorem evaluateAt_fires {u : Update} {k : Fin 8} {w : Watch} {v : Word} {s : State} (hk : s.watch k = some w)
    (hu : u.concerns w.subject = true) (hv : subjectValue w.subject s = some v) (armed : w.state = .armed)
    (holds : conditionHolds w v.toInt = true) : evaluateAt u k s = watchFire k w v s := by
  simp only [evaluateAt, hk, hu, if_true, hv, evaluate, holds, armed]

/-- The channels of a set stopped and held by watch k (R73, R123). -/
def tripped (k : Fin 8) (st : Style) (ch : Channel) : Channel :=
  { enterStop st ch with tripHolders := ch.tripHolders ||| holderBit k }

theorem watchFire_trips {k : Fin 8} {w : Watch} {set : BitVec 4}
    (h : w.action = .tripBrake set ∨ w.action = .tripCoast set) (v : Word) (s : State) :
    ∃ st, watchFire k w v s = forEach (channelsOf set) (fun c t => t.modChan c (tripped k st))
      (raiseEvent .watchTripped (toByte k.val) v (s.setWatch k (some { w with state := .tripped, lastEval := true }))) := by
  rcases h with h | h
  · refine ⟨.brake, ?_⟩
    unfold watchFire
    rw [h]
    rfl
  · refine ⟨.coast, ?_⟩
    unfold watchFire
    rw [h]
    rfl

theorem holderBit_ne_zero : ∀ k : Fin 8, holderBit k ≠ 0 := by decide

/-- A watch alone on its channel trips: what it makes of the watch and of the channel (R123). -/
theorem watchUpdate_trips {c : Fin 4} {k : Fin 8} {w : Watch} {set : BitVec 4} {s : State} (hk : s.watch k = some w)
    (armed : w.state = .armed) (alone : ∀ j, j ≠ k → s.watch j = none) (subject : w.subject = .motorPosition c)
    (holds : conditionHolds w (s.chan c).position.toInt = true) (action : w.action = .tripBrake set ∨ w.action = .tripCoast set)
    (inside : set.getLsbD c.val = true) : ∃ st,
      (watchUpdate (.motor c) s).watch k = some { w with state := .tripped, lastEval := true } ∧
      (watchUpdate (.motor c) s).chan c = tripped k st (s.chan c) := by
  have fires := evaluateAt_fires (u := .motor c) hk (by simp [Update.concerns, subject])
    (by simp only [subjectValue, subject]) armed holds
  obtain ⟨st, trips⟩ := watchFire_trips (k := k) action (s.chan c).position s
  have watches : (evaluateAt (.motor c) k s).watches =
      (s.setWatch k (some { w with state := .tripped, lastEval := true })).watches := by
    rw [fires, trips, forEach_frame State.watches (f := fun c t => t.modChan c (tripped k st)) _ (fun _ _ => rfl),
      raiseEvent_watches]
  have once : watchUpdate (.motor c) s = evaluateAt (.motor c) k s :=
    forEach_once (mem_all8 k) nodup_all8 (fun j hj => evaluateAt_unwatched (alone j hj) _) fun j hj =>
      evaluateAt_unwatched (by rw [watch_of_watches watches, watch_setWatch, if_neg hj, alone j hj]) _
  refine ⟨st, ?_, ?_⟩
  · rw [once, watch_of_watches watches, watch_setWatch_self]
  · rw [once, fires, trips, chan_forEach_modChan (nodup_channelsOf set), if_pos ((mem_channelsOf set c).2 inside),
      chan_raiseEvent]
    rfl

/-- The end of a held period leaves the profile, and a stopped channel stays stopped (R78, R92). -/
theorem periodEnd_held {x : Channel} (stopped : x.mode.stopped = true) (integ : x.integ = 0) (c : Fin 4) (leff n : Nat)
    (s : State) :
    let t := periodEnd c leff n s x 0
    t.watches = s.watches ∧ (t.chan c).mode.stopped = true ∧ (t.chan c).tripHolders = x.tripHolders ∧
      (t.chan c).duty = 0 ∧ (t.chan c).nextC = 0 ∧ (t.chan c).integ = 0 ∧ (t.chan c).tc = x.tc ∧
      (t.chan c).tf = x.tf ∧ (t.chan c).v = x.v ∧ (t.chan c).ref = x.ref := by
  obtain ⟨-, watches, -, chan⟩ := tellCondition_told (srcStall c) (decide (n = x.params.stallTime))
    (s.setChan c { x with leff := leff, stall := n })
  have chan := chan c
  rw [chan_setChan_self] at chan
  have style (st : Style) : st.mode.stopped = true := by cases st <;> rfl
  simp only [periodEnd, chan_modChan_self, outputStage_zero]
  refine ⟨watches, ?_⟩
  rcases chan with h | ⟨st, h⟩ <;> rw [h]
  · exact ⟨stopped, rfl, trivial, trivial, integ, rfl, rfl, rfl, rfl⟩
  · exact ⟨style st, rfl, trivial, trivial, rfl, rfl, rfl, rfl, rfl⟩

theorem stageOut_held {c : Fin 4} {s : State} (stopped : (s.chan c).mode.stopped = true) (current : Nat) :
    let t := stageOut c current s s (heldStage (s.chan c)) 0
    t.watches = s.watches ∧ (t.chan c).mode.stopped = true ∧ (t.chan c).tripHolders = (s.chan c).tripHolders ∧
      (t.chan c).duty = 0 ∧ (t.chan c).nextC = 0 ∧ (t.chan c).integ = 0 ∧ (t.chan c).tc = (s.chan c).tc ∧
      (t.chan c).tf = (s.chan c).tf ∧ (t.chan c).v = (s.chan c).v ∧ (t.chan c).ref = (s.chan c).ref :=
  periodEnd_held (x := heldStage (s.chan c)) stopped rfl c _ _ s

/-- Settles O41, clause by clause. -/
theorem periodBoundsDuty : Obligations.PeriodBoundsDuty := by
  unfold Obligations.PeriodBoundsDuty
  refine ⟨fun c current s running => ?_, fun c current s running plain none_pending within held quiet stall => ?_,
    fun c current s0 running none_pending => ?_, fun c current k w set s => ?_, fun c current p s running pending => ?_,
    fun c s => ?_, fun c j p n e s => ?_⟩
  · obtain ⟨duty, leff, sag, nextC, forward, reverse, stopped, pending, high⟩ := controlPeriod_bounds c current s
    obtain ⟨keeps, -⟩ := controlPeriod_end c current s
    exact ⟨_, exec_controlPeriodExpiry running current, duty, leff, sag, nextC, forward, reverse, stopped, pending, high,
      keeps.supply, keeps.publish, keeps.inReset.trans running⟩
  · have still : heldPeriod c (s.setChan c (measure (s.chan c))) = true :=
      (heldPeriod_eq_true ..).2 (by rw [chan_setChan_self]; exact held)
    obtain ⟨shifted, newest⟩ := history_measure (s.chan c)
    refine ⟨{ measure (s.chan c) with
      settle := 0, integ := 0, leff := min (ceiling (s.supply.state == .sag) (s.chan c)) ((s.chan c).leff + 10),
      stall := 0, duty := 0, nextC := 0 }, ?_, ?_, ?_, shifted, newest⟩
    · have quiet_out := stageOut_quiet (c := c) (current := current) (s := s.setChan c (measure (s.chan c)))
        (by rw [chan_setChan_self]; exact within) quiet (by rw [chan_setChan_self]; exact stall)
      rw [exec_controlPeriodExpiry running, controlPeriod_measured none_pending, measureStage_plain plain,
        period_held still, quiet_out, chan_setChan_self, setChan_setChan]
      rfl
    · rw [ceiling_eq]
      rfl
    · exact clampAbs_eq ..
  · intro ch0 measured s ch index i ceil leff n out regulated moved
    have measures : measureStage c s0 = s := by
      have record : s0.modChan c measure = measured := congrArg (s0.setChan c) (measure_eq ch0)
      show (if _ then watchUpdate _ (s0.modChan c measure) else s0.modChan c measure) = _
      rw [record]
    have runs : exec (.controlPeriodExpiry c current) s0 = .next (outputStages c current (middleStages c s)) := by
      rw [exec_controlPeriodExpiry running, controlPeriod_measured none_pending, measures]
    have outs (base : State) (x : Channel) (u : Int) (hp : x.params = ch.params) :
        stageOut c current s base x u = out base x u := stageOut_eq hp current base u
    have regs (base : State) (y : Channel) (hp : y.params = ch.params) :
        regulatedOut c current s base y = regulated base y := outs _ _ _ ((refStage_limits y).params.trans hp)
    clear_value s
    rw [runs]
    refine ⟨fun held => ?_, fun no_halt no_holder supplied => ?_⟩
    · rw [period_held ((heldPeriod_eq_true c s).2 held)]
      exact congrArg _ (outs s (heldStage ch) 0 rfl)
    · have free (moving : ch.mode.stopped = false) : heldPeriod c s ≠ true := by
        rw [Ne, heldPeriod_eq_true]
        rintro (h | h | h | h | h)
        · exact absurd moving (by rw [show ch.mode = _ from h]; decide)
        · exact absurd moving (by rw [show ch.mode = _ from h]; decide)
        · exact absurd h (by rw [show (s.chan c).haltFlag = false from no_halt]; decide)
        · exact h no_holder
        · exact supplied h
      refine ⟨fun d mode => ?_, fun v mode => ?_, fun g mode => ?_, fun g mode => ?_, fun r g mode =>
        ⟨fun x usable => ?_, fun cause lapses => ?_⟩⟩
      · rw [period_openDrive (free (by rw [mode]; rfl)) mode]
        exact congrArg _ (outs s ch _ rfl)
      · rw [period_speed (free (by rw [mode]; rfl)) mode]
        exact congrArg _ (regs s ch rfl)
      · rw [period_hold (free (by rw [mode]; rfl)) mode]
        exact congrArg _ (regs s _ rfl)
      · rw [period_position (free (by rw [mode]; rfl)) mode]
        intro x k y
        have moves : movedTo g (s.chan c) = x := rfl
        have counted : settledIn g x = y := rfl
        have count : settleCount g x = k := rfl
        clear_value x k y regulated
        dsimp only
        rw [moves, counted, count, regs _ y (by rw [← counted, ← moves]; rfl)]
        rfl
      · rw [period_follow_value (free (by rw [mode]; rfl)) mode usable]
        exact congrArg _ (regs s _ rfl)
      · rw [period_follow_lapse (free (by rw [mode]; rfl)) mode lapses, toWord_natCast]
        exact congrArg _ (regs _ _ rfl)
  · intro ch running none_pending encoded armed_at armed alone subject holds action inside
    obtain ⟨st, watch, chan⟩ := watchUpdate_trips (s := s.setChan c (measure (s.chan c))) armed_at armed alone subject
      (by rw [chan_setChan_self]; exact holds) action inside
    rw [chan_setChan_self] at chan
    generalize hm : watchUpdate (.motor c) (s.setChan c (measure (s.chan c))) = m at watch chan
    have stopped : (m.chan c).mode.stopped = true := by
      rw [chan]
      cases st <;> rfl
    have held : heldPeriod c m = true := by
      rw [heldPeriod, stopped]
      rfl
    obtain ⟨watches, mode, holders, duty, nextC, integ, tc, tf, v, ref⟩ := stageOut_held stopped current
    refine ⟨stageOut c current m m (heldStage (m.chan c)) 0, ?_, (watch_of_watches watches k).trans watch, mode,
      holders.trans (congrArg Channel.tripHolders chan), duty, nextC, integ, tc.trans ((congrArg Channel.tc chan).trans rfl),
      tf.trans ((congrArg Channel.tf chan).trans rfl), v.trans ((congrArg Channel.v chan).trans rfl),
      ref.trans ((congrArg Channel.ref chan).trans rfl)⟩
    rw [exec_controlPeriodExpiry running, controlPeriod_measured none_pending, measureStage_encoded encoded, hm,
      period_held held]
  · intro ch
    have adopted := controlPeriod_adopts c current s
    rw [adoptParams_some pending] at adopted
    rw [exec_controlPeriodExpiry running, exec_controlPeriodExpiry (by exact running)]
    exact congrArg _ adopted.symm
  · refine ⟨tellCondition_same .., fun quiet inactive grace reaction => ?_, fun present latched => ?_⟩
    · refine (tellCondition_stalls quiet inactive grace reaction).trans ?_
      rw [haltChannel, State.modChan, chan_raiseEvent]
      rfl
    · rw [tellCondition_ends present, conditionEnd_latched latched]
  · refine ⟨rfl, fun used => ?_, ?_⟩
    · simp only [readSource, used] <;> rfl
    · simp only [readSource]
      cases (s.port p).reading.valid <;> cases (s.port p).reading.values[n]? <;> rfl

end Sys2Proof.Machine
end

section
/-! PROOFS. Sensor ports: detection, passive sensors, the rate, messages, the line and the timers (R97 to R115, R177). -/

namespace Sys2Proof.Machine

variable {s : State} {p : Fin 4}

/-! ## Port records -/

@[simp] theorem setPort_setPort (s : State) (p : Fin 4) (x y : Port) : (s.setPort p x).setPort p y = s.setPort p y := by
  simp [State.setPort]

theorem setPort_modPort (s : State) (p : Fin 4) (x : Port) (f : Port → Port) :
    (s.setPort p x).modPort p f = s.setPort p (f x) := by
  rw [State.modPort, port_setPort_self, setPort_setPort]

/-- The record of a port that has lost its ready mark (R98, R108). -/
def unready (x : Port) : Port := { x with ready := false }

theorem loseReady_ready {x : Port} (h : x.ready = true) (why : Word) :
    loseReady p why (s.setPort p x) = raiseEvent .sensorLost (portNumber p) why (s.setPort p (unready x)) := by
  rw [loseReady, port_setPort_self, h, if_pos rfl, setPort_modPort]
  rfl

theorem loseReady_unready {x : Port} (h : x.ready = false) (why : Word) : loseReady p why (s.setPort p x) = s.setPort p x := by
  rw [loseReady, port_setPort_self, h, if_neg Bool.false_ne_true]

theorem setPort_port (p : Fin 4) (s : State) : s.setPort p (s.port p) = s := by
  show { s with ports := s.ports.set p.val (s.ports.get p) p.isLt } = s
  rw [show s.ports.set p.val (s.ports.get p) p.isLt = s.ports from Vector.set_getElem_self p.isLt]

/-- A port that loses its ready mark and then takes on a record that no longer asks for it (R98, R108). -/
theorem loseReady_modPort {x : Port} {f : Port → Port} (h : f (unready x) = unready (f x))
    (keeps : (f x).ready = x.ready) (why : Word) :
    (loseReady p why (s.setPort p x)).modPort p f = (if x.ready then
      raiseEvent .sensorLost (portNumber p) why (s.setPort p (unready x)) else s.setPort p x).setPort p (unready (f x)) := by
  cases ready : x.ready with
  | true => rw [loseReady_ready ready, if_pos rfl, State.modPort, port_raiseEvent, port_setPort_self, h]
  | false =>
    have same : unready (f x) = f x := by rw [unready, ← ready, ← keeps]
    rw [loseReady_unready ready, if_neg Bool.false_ne_true, State.modPort, port_setPort_self, same]

/-! ## Detection (R97, R98) -/

section
variable {mv : Nat} {b : Band}

theorem exec_detectSample (running : s.inReset = false) (hb : bandOf mv = b) :
    exec (.detectSample p mv) s = .next (detectStep p b s) := by
  rw [show exec (.detectSample p mv) s = execDetectSample p mv s from rfl, execDetectSample, running, hb,
    if_neg Bool.false_ne_true]

theorem detectStep_settled (h : b = (s.port p).settled) :
    detectStep p b s = s.setPort p { s.port p with candidate := none, debounce := 0 } := if_pos h

/-- The samples in a row of a band once one more has come (R97). -/
def debounced (b : Band) (x : Port) : Nat := if x.candidate = some b then x.debounce + 1 else 1

theorem detectStep_counts (other : b ≠ (s.port p).settled) (few : debounced b (s.port p) < 20) :
    detectStep p b s = s.setPort p { s.port p with candidate := some b, debounce := debounced b (s.port p) } :=
  (if_neg other).trans (if_neg (by exact Nat.not_le.2 few))

theorem detectStep_settles (other : b ≠ (s.port p).settled) (many : 20 ≤ debounced b (s.port p)) :
    detectStep p b s = (if (s.port p).ready then
      raiseEvent .sensorLost (portNumber p) 3 (s.setPort p (unready (s.port p))) else s).setPort p
        (unready (enterBand b (s.port p))) := by
  have lost := loseReady_modPort (s := s) (p := p) (x := s.port p) (f := enterBand b) rfl rfl 3
  rw [setPort_port] at lost
  exact ((if_neg other).trans (if_pos (by exact many))).trans lost

end

/-! ## Passive sensors (R99, R100) -/

section
variable {mv : Nat}

theorem exec_analogSample_other (h : (s.port p).state ≠ .analog) : exec (.analogSample p mv) s = .next s :=
  congrArg _ (if_neg h)

theorem exec_analogSample_analog (h : (s.port p).state = .analog) :
    exec (.analogSample p mv) s = .next (analogStep p mv s) := congrArg _ (if_pos h)

theorem windowStep_short {w : List Nat} (h : w.length < 8) : windowStep mv w = w ++ [min 5000 mv] := by
  rw [windowStep, if_pos h]

theorem windowStep_full {o : Nat} {w : List Nat} (h : w.length = 7) : windowStep mv (o :: w) = w ++ [min 5000 mv] := by
  rw [windowStep, List.length_cons, h, if_neg (by decide)]
  rfl

/-- The reading of a passive sensor (R99, R100). -/
def passiveReading (value : Word) : Reading := { valid := true, mode := 0, values := [value], age := 0 }

theorem analogStep_grows (h : (s.port p).window.length < 7) :
    analogStep p mv s = s.setPort p { s.port p with window := (s.port p).window ++ [min 5000 mv] } := by
  have short : ((s.port p).window ++ [min 5000 mv]).length < 8 := by
    rw [List.length_append, List.length_singleton]
    omega
  rw [analogStep, windowStep_short (by omega)]
  exact if_pos short

theorem analogStep_fills (h : (s.port p).window.length = 7) :
    let w := (s.port p).window ++ [min 5000 mv]
    analogStep p mv s = watchUpdate (.sensor p) (raiseEvent .sensorReady (portNumber p)
      (readyArg (s.port p).settled.typeCode 0) (s.setPort p { s.port p with
        window := w, ready := true, reading := passiveReading (passiveValue (s.port p).settled (windowMean w) none) })) := by
  intro w
  have full : ¬w.length < 8 := by
    rw [List.length_append, List.length_singleton]
    omega
  have short : (s.port p).window.length < 8 := by omega
  rw [analogStep, windowStep_short short]
  refine (if_neg full).trans ?_
  simp only [short, decide_true, if_true]
  rfl

theorem analogStep_slides {o : Nat} {w : List Nat} (hw : (s.port p).window = o :: w) (h : w.length = 7) :
    analogStep p mv s = watchUpdate (.sensor p) (s.setPort p { s.port p with
      window := w ++ [min 5000 mv],
      reading := passiveReading (passiveValue (s.port p).settled (windowMean (w ++ [min 5000 mv]))
        (s.port p).reading.values.head?) }) := by
  have full : ¬(w ++ [min 5000 mv]).length < 8 := by
    rw [List.length_append, List.length_singleton]
    omega
  have long : ¬(s.port p).window.length < 8 := by
    rw [hw, List.length_cons]
    omega
  rw [analogStep, show windowStep mv (s.port p).window = w ++ [min 5000 mv] by rw [hw, windowStep_full h]]
  refine (if_neg full).trans ?_
  simp only [long, decide_false, Bool.false_eq_true, if_false]
  rfl

theorem windowMean_append (w : List Nat) (v : Nat) : windowMean (w ++ [v]) = (w.sum + v) / 8 := by
  rw [windowMean, List.sum_append, List.sum_singleton]

end

/-- Settles O43: the band of a detect sample, then the window of an analog one. -/
theorem portsDetectSensors : Obligations.PortsDetectSensors := by
  unfold Obligations.PortsDetectSensors
  refine ⟨fun p mv s running => ?_, fun p mv s => ⟨exec_analogSample_other, fun analog short => ?_, fun analog full => ?_,
    fun o w analog window full => ?_⟩⟩
  · intro x b n
    have runs := exec_detectSample (p := p) running (rfl : bandOf mv = b)
    rw [runs]
    refine ⟨fun same => congrArg _ (detectStep_settled same), fun other few => congrArg _ (detectStep_counts other few),
      fun other many => ?_⟩
    intro y
    have record : unready (enterBand b x) = y := by
      clear_value b
      cases b <;> rfl
    have settles := detectStep_settles other many
    rw [show (enterBand b (s.port p)) = enterBand b x from rfl, record] at settles
    clear_value y
    refine congrArg _ (settles.trans ?_)
    rw [apply_ite (fun t : State => t.setPort p y)]
    rfl
  · exact (exec_analogSample_analog analog).trans (congrArg _ (analogStep_grows short))
  · intro mean settles
    have value (old : Option Word) :
        passiveValue (s.port p).settled (windowMean ((s.port p).window ++ [min 5000 mv])) old =
          passiveValue (s.port p).settled mean old := by rw [windowMean_append]
    have sent := (exec_analogSample_analog (mv := mv) analog).trans (congrArg _ (analogStep_fills full))
    rw [value] at sent
    refine ⟨fun band => ?_, fun band => ?_, fun band => ?_⟩ <;> rw [band] at sent
    · rw [show passiveValue .generic mean none = BitVec.ofNat 32 mean from toWord_natCast mean] at sent
      exact sent
    · rw [show passiveValue .light mean none = BitVec.ofNat 32 mean from toWord_natCast mean] at sent
      exact sent
    · exact sent.trans rfl
  · have sent := (exec_analogSample_analog (mv := mv) analog).trans (congrArg _ (analogStep_slides window full))
    rw [windowMean_append] at sent
    refine ⟨_, sent, fun band => ?_, fun band => ?_⟩
    · rcases band with band | band <;> rw [band, ← toWord_natCast] <;> rfl
    · rw [band]
      refine ⟨fun high => if_pos high, fun q l values => ⟨fun low => ?_, fun low high => ?_⟩⟩
      · rw [values]
        exact (if_neg (by omega)).trans (if_pos low)
      · rw [values]
        exact (if_neg (by omega)).trans (if_neg (by omega))

end Sys2Proof.Machine
end

section
/-! PROOFS. Sensor ports: the rate and the messages (R101 to R111, R177). -/

namespace Sys2Proof.Machine

variable {s : State} {p : Fin 4}

/-! ## Finding the rate (R101, R102) -/

section
variable {ns : Nat} {r q : SensorRate}

/-- A measured time lies within 3 per cent of a rate (R102). -/
def Snaps (ns : Nat) (r : SensorRate) : Prop :=
  97 * 8000000000 ≤ 100 * (ns * r.bps) ∧ 100 * (ns * r.bps) ≤ 103 * 8000000000

theorem snapsTo_eq_true : snapsTo ns r = true ↔ Snaps ns r := decide_eq_true_iff

theorem snaps_unique (hr : Snaps ns r) (hq : Snaps ns q) : q = r := by
  unfold Snaps at hr hq
  cases r <;> cases q <;> simp only [SensorRate.bps, reduceCtorEq] at hr hq ⊢ <;> omega

theorem snapRate_some (h : Snaps ns r) : snapRate ns = some r := by
  have found : (snapRate ns).isSome := List.find?_isSome.2 ⟨r, by cases r <;> decide, snapsTo_eq_true.2 h⟩
  obtain ⟨q, hq⟩ := Option.isSome_iff_exists.1 found
  rw [hq, snaps_unique h (snapsTo_eq_true.1 (List.find?_some hq))]

theorem snapRate_none (h : ∀ r, ¬Snaps ns r) : snapRate ns = none :=
  List.find?_eq_none.2 fun r _ hr => h r (snapsTo_eq_true.1 hr)

theorem finding_of (syncing : (s.port p).state = .syncing) (open_rate : (s.port p).fixedRate = none) :
    (s.port p).finding = true := by
  rw [Port.finding, syncing, open_rate]
  rfl

theorem exec_rateMeasurement (finding : (s.port p).finding = true) (running : (s.port p).measuring.isSome = true) :
    exec (.rateMeasurement p ns) s = .next (s.modPort p (rateStep ns)) :=
  congrArg _ (if_pos (by rw [finding, running]; rfl))

end

/-- Settles O44: one edge, one limit and one measurement at a time. -/
theorem rateIsMeasuredTwice : Obligations.RateIsMeasuredTwice := by
  unfold Obligations.RateIsMeasuredTwice
  intro p s syncing open_rate x
  have finding := finding_of syncing open_rate
  refine ⟨fun idle => congrArg _ (if_pos (by rw [finding, idle]; rfl)), fun m measures => ⟨?_, ?_, fun ns => ?_⟩⟩
  · exact congrArg _ (if_neg (by rw [finding, measures]; exact Bool.false_ne_true))
  · show Host.Outcome.next (if (s.port p).finding && ranOut (s.port p).measuring then _ else _) = _
    rw [finding, measures]
    exact congrArg _ (if_congr (by simp [ranOut]) rfl rfl)
  · have runs := exec_rateMeasurement (ns := ns) finding (by rw [measures]; rfl)
    rw [runs]
    refine ⟨fun strays => ?_, fun r snaps => ?_⟩
    · rw [State.modPort, rateStep, snapRate_none strays]
    · rw [State.modPort, rateStep, snapRate_some snaps]
      exact ⟨fun other => congrArg _ (congrArg (s.setPort p) (if_neg other)),
        fun same => congrArg _ (congrArg (s.setPort p) ((if_pos same).trans (by rw [send, ← same])))⟩

/-! ## Messages judged (R103, R105, R108) -/

/-- The record of a port that has counted a bad message (R103). -/
def countedBad (x : Port) : Port := { x with totalBad := min 255 (x.totalBad + 1), consecBad := x.consecBad + 1 }

/-- The record of a port that has had a good message (R103). -/
def countedGood (x : Port) : Port := { x with consecBad := 0 }

theorem badMessage_few (few : (s.port p).consecBad < 7) : badMessage p s = s.setPort p (countedBad (s.port p)) :=
  if_neg (show ¬8 ≤ (s.port p).consecBad + 1 by omega)

theorem badMessage_many (many : 7 ≤ (s.port p).consecBad) :
    badMessage p s = eightBad p (s.setPort p (countedBad (s.port p))) :=
  if_pos (show 8 ≤ (s.port p).consecBad + 1 by omega)

theorem goodMessage_eq (p : Fin 4) (s : State) : goodMessage p s = s.setPort p (countedGood (s.port p)) := rfl

theorem failIdentification_setPort (x : Port) (why : Word) : failIdentification p why (s.setPort p x) =
    raiseEvent .sensorIdFailed (portNumber p) why (s.setPort p (enterSyncing x)) := by
  rw [failIdentification, setPort_modPort]
  rfl

theorem badMessage_describing (h : (s.port p).state = .describing) (many : 7 ≤ (s.port p).consecBad) :
    badMessage p s = raiseEvent .sensorIdFailed (portNumber p) 3 (s.setPort p (enterSyncing (countedBad (s.port p)))) := by
  rw [badMessage_many many, eightBad, port_setPort_self]
  exact (if_pos h).trans (failIdentification_setPort ..)

theorem loseSensor_setPort (x : Port) (why : Word) : loseSensor p why (s.setPort p x) = (if x.ready then
      raiseEvent .sensorLost (portNumber p) why (s.setPort p (unready x)) else s.setPort p x).setPort p
        (unready (enterSyncing x)) := loseReady_modPort (f := enterSyncing) rfl rfl why

theorem badMessage_identified (h : (s.port p).state ≠ .describing) (many : 7 ≤ (s.port p).consecBad) :
    badMessage p s = (if (s.port p).ready then
      raiseEvent .sensorLost (portNumber p) 2 (s.setPort p (unready (countedBad (s.port p))))
      else s.setPort p (countedBad (s.port p))).setPort p (unready (enterSyncing (countedBad (s.port p)))) := by
  rw [badMessage_many many, eightBad, port_setPort_self]
  exact (if_neg h).trans (loseSensor_setPort ..)

theorem receives_eq_true (x : Port) :
    x.receives = true ↔ x.state = .describing ∨ x.state = .switching ∨ x.state = .streaming := by
  simp [Port.receives, or_assoc]

section
variable {m : SensorMsg}

theorem messageFaulty_eq_true : messageFaulty m = true ↔
    m.stopLow = true ∨ m.check ≠ (m.header :: m.body).foldl (fun a b => a ^^^ b) 0xFF := by
  rw [messageFaulty, Bool.or_eq_true, bne_iff_ne, ne_comm]
  rfl

theorem messageFaulty_intact (stop : m.stopLow = false)
    (check : m.check = (m.header :: m.body).foldl (fun a b => a ^^^ b) 0xFF) : messageFaulty m = false := by
  rw [← Bool.not_eq_true, messageFaulty_eq_true]
  exact fun h => h.elim (by rw [stop]; exact Bool.false_ne_true) (· check)

/-- A byte 0x55 is passed over in DESCRIBING alone (R105). -/
abbrev passesOver (x : Port) (m : SensorMsg) : Prop := x.state = .describing ∧ m.header = 0x55

theorem exec_sensorMessage_passed (h : passesOver (s.port p) m) : exec (.sensorMessageReceived p m) s = .next s := by
  show Host.Outcome.next (messageStep p m s) = _
  rw [messageStep, (receives_eq_true _).2 (.inl h.1), Bool.not_true, if_neg Bool.false_ne_true, if_pos h]

theorem exec_sensorMessage_bad (receives : (s.port p).receives = true) (kept : ¬passesOver (s.port p) m)
    (faulty : messageFaulty m = true) : exec (.sensorMessageReceived p m) s = .next (badMessage p s) := by
  show Host.Outcome.next (messageStep p m s) = _
  rw [messageStep, receives, Bool.not_true, if_neg Bool.false_ne_true, if_neg kept, if_pos faulty]

theorem exec_sensorMessage_good (receives : (s.port p).receives = true) (kept : ¬passesOver (s.port p) m)
    (sound : messageFaulty m = false) : exec (.sensorMessageReceived p m) s = .next (useMessage p m s) := by
  show Host.Outcome.next (messageStep p m s) = _
  rw [messageStep, receives, Bool.not_true, if_neg Bool.false_ne_true, if_neg kept, sound, if_neg Bool.false_ne_true]

theorem exec_sensorGapTimeout (receives : (s.port p).receives = true) :
    exec (.sensorGapTimeout p) s = .next (badMessage p s) := congrArg _ (if_pos receives)

theorem useMessage_describe (kind : m.header.toNat / 32 = 1) (h : (s.port p).state = .describing) :
    useMessage p m s = useDescribe p m.body (s.setPort p (countedGood (s.port p))) := by
  rw [useMessage, kind, h]
  rfl

theorem useMessage_values (kind : m.header.toNat / 32 = 3) (h : (s.port p).state = .switching ∨ (s.port p).state = .streaming) :
    useMessage p m s = judgeValues p m.body s := by
  rcases h with h | h <;> rw [useMessage, kind, h] <;> rfl

theorem useMessage_describing_other (kind : m.header.toNat / 32 ≠ 1) (h : (s.port p).state = .describing) :
    useMessage p m s = s.setPort p (countedGood (s.port p)) := by
  unfold useMessage
  rw [h]
  split
  · exact absurd ‹_› kind
  · contradiction
  · contradiction
  · rfl

theorem useMessage_other (kind : m.header.toNat / 32 ≠ 3) (h : (s.port p).state = .switching ∨ (s.port p).state = .streaming) :
    useMessage p m s = s.setPort p (countedGood (s.port p)) := by
  unfold useMessage
  split
  · simp_all
  · exact absurd ‹_› kind
  · exact absurd ‹_› kind
  · rfl

end

/-! ## Descriptions (R105, R106) -/

/-- The bytes of a mode in a DESCRIBE body (R106). -/
def modeBytes (md : ModeDesc) : List Byte := [BitVec.ofNat 8 md.count, md.format.code, BitVec.ofInt 8 md.scale]

/-- A mode a DESCRIBE body may list (R105). -/
def ModeFits (md : ModeDesc) : Prop := 1 ≤ md.count ∧ md.count ≤ 4 ∧ -4 ≤ md.scale ∧ md.scale ≤ 4

@[simp] theorem formatOf_code (f : Format) : formatOf f.code = some f := by cases f <;> rfl

theorem code_formatOf {b : Byte} {f : Format} (h : formatOf b = some f) : f.code = b := by
  apply BitVec.eq_of_toNat_eq
  unfold formatOf at h
  split at h <;> cases h <;> simp_all [Format.code]

theorem toInt_ofInt_scale {i : Int} (low : -4 ≤ i) (high : i ≤ 4) : (BitVec.ofInt 8 i).toInt = i := by
  rw [BitVec.toInt_ofInt]
  exact Int.bmod_eq_of_le (by omega) (by omega)

theorem modesOf_cons {md : ModeDesc} (h : ModeFits md) (bs : List Byte) :
    modesOf (modeBytes md ++ bs) = (modesOf bs).map (md :: ·) := by
  obtain ⟨count_low, count_high, scale_low, scale_high⟩ := h
  have count : (BitVec.ofNat 8 md.count).toNat = md.count := by
    rw [BitVec.toNat_ofNat]
    omega
  show (match formatOf md.format.code with | some fmt => _ | none => none) = _
  rw [formatOf_code]
  simp only [count, toInt_ofInt_scale scale_low scale_high]
  exact if_pos ⟨count_low, count_high, scale_low, scale_high⟩

theorem modesOf_flatMap {ms : List ModeDesc} (h : ∀ md ∈ ms, ModeFits md) : modesOf (ms.flatMap modeBytes) = some ms := by
  induction ms with
  | nil => rfl
  | cons md ms ih =>
    rw [List.flatMap_cons, modesOf_cons (h md (.head _)), ih fun x hx => h x (.tail _ hx), Option.map_some]

theorem modesOf_some {bs : List Byte} : ∀ {ms : List ModeDesc}, modesOf bs = some ms →
    (∀ md ∈ ms, ModeFits md) ∧ bs = ms.flatMap modeBytes := by
  induction bs using modesOf.induct with
  | case1 =>
    rintro ms ⟨⟩
    exact ⟨fun _ h => absurd h List.not_mem_nil, rfl⟩
  | case2 c f e rest fmt hf fits ih =>
    intro ms h
    rw [modesOf, hf] at h
    simp only [fits, and_self, if_true, Option.map_eq_some_iff] at h
    obtain ⟨tail, htail, rfl⟩ := h
    obtain ⟨each, same⟩ := ih htail
    refine ⟨List.forall_mem_cons.2 ⟨fits, each⟩, ?_⟩
    rw [List.flatMap_cons, ← same]
    simp [modeBytes, code_formatOf hf]
  | case3 c f e rest fmt hf fits =>
    intro ms h
    rw [modesOf, hf] at h
    exact absurd h (by simp [fits])
  | case4 c f e rest hf =>
    intro ms h
    rw [modesOf, hf] at h
    contradiction
  | case5 bs other_nil other_cons =>
    intro ms h
    unfold modesOf at h
    split at h
    · exact absurd rfl other_nil
    · exact absurd rfl (other_cons _ _ _ _)
    · contradiction

/-- The body of a well-formed DESCRIBE (R105, R106). -/
def DescribeBody (body : List Byte) (code : Byte) (ms : List ModeDesc) : Prop :=
  1 ≤ ms.length ∧ ms.length ≤ 8 ∧ (∀ md ∈ ms, ModeFits md) ∧ body = code :: BitVec.ofNat 8 ms.length :: ms.flatMap modeBytes

theorem length_flatMap_modeBytes (ms : List ModeDesc) : (ms.flatMap modeBytes).length = 3 * ms.length := by
  induction ms with
  | nil => rfl
  | cons md ms ih => rw [List.flatMap_cons, List.length_append, ih, List.length_cons, modeBytes, Nat.mul_succ,
      Nat.add_comm]; rfl

theorem descriptorOf_body {body : List Byte} {code : Byte} {ms : List ModeDesc} (h : DescribeBody body code ms) :
    descriptorOf body = some { typeCode := code, modes := ms } := by
  obtain ⟨low, high, fits, rfl⟩ := h
  have count : (BitVec.ofNat 8 ms.length).toNat = ms.length := by
    rw [BitVec.toNat_ofNat]
    omega
  rw [descriptorOf, count, if_pos ⟨low, high, length_flatMap_modeBytes ms⟩, modesOf_flatMap fits, Option.map_some]

theorem descriptorOf_none {body : List Byte} (h : ∀ code ms, ¬DescribeBody body code ms) : descriptorOf body = none := by
  refine Option.eq_none_iff_forall_ne_some.2 fun d hd => ?_
  unfold descriptorOf at hd
  split at hd
  case h_2 => contradiction
  case h_1 t m rest =>
    split at hd
    case isFalse => contradiction
    case isTrue counts =>
      obtain ⟨ms, hms, rfl⟩ := Option.map_eq_some_iff.1 hd
      obtain ⟨low, high, length⟩ := counts
      obtain ⟨fits, rfl⟩ := modesOf_some hms
      have count : ms.length = m.toNat := by
        rw [length_flatMap_modeBytes] at length
        omega
      exact h t ms ⟨by omega, by omega, fits, by rw [count, BitVec.ofNat_toNat, BitVec.setWidth_eq]⟩

theorem useDescribe_body {body : List Byte} {code : Byte} {ms : List ModeDesc} (h : DescribeBody body code ms) (x : Port) :
    useDescribe p body (s.setPort p x) = s.setPort p (enterIdentification { typeCode := code, modes := ms } x) := by
  rw [useDescribe, descriptorOf_body h]
  exact setPort_modPort ..

theorem useDescribe_illFormed {body : List Byte} (h : ∀ code ms, ¬DescribeBody body code ms) (x : Port) :
    useDescribe p body (s.setPort p x) = raiseEvent .sensorIdFailed (portNumber p) 2 (s.setPort p (enterSyncing x)) := by
  rw [useDescribe, descriptorOf_none h]
  exact failIdentification_setPort ..

/-! ## Readings (R106, R107, R110) -/

/-- The bytes of a value in a format (R106). -/
def valueBytes (f : Format) (v : Word) : List Byte :=
  match f with
  | .s8 => [v.extractLsb' 0 8]
  | .s16 => [v.extractLsb' 8 8, v.extractLsb' 0 8]
  | .s32 => wordBytes v

/-- A value a format can carry (R106). -/
def ValueFits (f : Format) (v : Word) : Prop :=
  match f with
  | .s8 => v = (v.extractLsb' 0 8).signExtend 32
  | .s16 => v = (v.extractLsb' 0 16).signExtend 32
  | .s32 => True

theorem valueOf_bytes {f : Format} {v : Word} (h : ValueFits f v) (bs : List Byte) :
    valueOf f (valueBytes f v ++ bs) = some (v, bs) := by
  cases f with
  | s8 => exact congrArg (fun w => some (w, bs)) h.symm
  | s16 =>
    have joined : half (v.extractLsb' 8 8) (v.extractLsb' 0 8) = v.extractLsb' 0 16 := by
      unfold half
      exact BitVec.extractLsb'_append_extractLsb'_eq_extractLsb' (by decide : 8 = 0 + 8)
    show some ((half _ _).signExtend 32, bs) = _
    rw [joined, ← (show v = _ from h)]
  | s32 => exact congrArg (fun w => some (w, bs)) (word_extract v)

theorem valuesOf_bytes {f : Format} {vs : List Word} (h : ∀ v ∈ vs, ValueFits f v) :
    valuesOf f vs.length (vs.flatMap (valueBytes f)) = some vs := by
  induction vs with
  | nil => rfl
  | cons v vs ih =>
    rw [List.flatMap_cons, List.length_cons, valuesOf, valueOf_bytes (h v (.head _))]
    show (valuesOf _ _ _).map _ = _
    rw [ih fun x hx => h x (.tail _ hx), Option.map_some]

theorem valueOf_length {f : Format} {bs rest : List Byte} {v : Word} (h : valueOf f bs = some (v, rest)) :
    bs.length = f.width + rest.length := by
  unfold valueOf at h
  split at h <;> cases h <;> simp only [List.length_cons, Format.width] <;> omega

theorem valuesOf_length {f : Format} {n : Nat} : ∀ {bs : List Byte} {vs : List Word}, valuesOf f n bs = some vs →
    bs.length = n * f.width := by
  induction n with
  | zero =>
    intro bs vs h
    cases bs with
    | nil => exact (Nat.zero_mul _).symm
    | cons => cases h
  | succ n ih =>
    intro bs vs h
    rw [valuesOf] at h
    split at h
    case h_2 => contradiction
    case h_1 v rest hv =>
      obtain ⟨tail, htail, rfl⟩ := Option.map_eq_some_iff.1 h
      rw [valueOf_length hv, ih htail, Nat.succ_mul, Nat.add_comm]

section
variable {d : Descriptor} {mode : Byte} {md : ModeDesc} {rest : List Byte}

theorem readingOf_values (h : d.modes[mode.toNat]? = some md) {vs : List Word} (count : md.count = vs.length)
    (fits : ∀ v ∈ vs, ValueFits md.format v) :
    readingOf (some d) (mode :: vs.flatMap (valueBytes md.format)) = some (mode.toNat, vs) := by
  simp only [readingOf, h, count, valuesOf_bytes fits, Option.map_some]

theorem readingOf_unknown (h : d.modes[mode.toNat]? = none) : readingOf (some d) (mode :: rest) = none := by
  simp only [readingOf, h]

theorem readingOf_length (h : d.modes[mode.toNat]? = some md) (other : rest.length ≠ md.count * md.format.width) :
    readingOf (some d) (mode :: rest) = none := by
  have none : valuesOf md.format md.count rest = none :=
    Option.eq_none_iff_forall_ne_some.2 fun vs hvs => other (valuesOf_length hvs)
  simp only [readingOf, h, none, Option.map_none]

end

/-! ## Readings used (R107, R110) -/

section
variable {mode : Nat} {vs : List Word} {x : Port}

theorem takeReading_setPort : takeReading p mode vs (s.setPort p x) =
    watchUpdate (.sensor p) (s.setPort p (writeReading mode vs x)) := by
  rw [takeReading, setPort_modPort]

theorem useValues_streaming (h : x.state = .streaming) : useValues p mode vs (s.setPort p x) =
    if x.currentMode = some mode then watchUpdate (.sensor p) (s.setPort p (writeReading mode vs x)) else s.setPort p x := by
  rw [← takeReading_setPort]
  unfold useValues
  rw [port_setPort_self]
  dsimp only
  rw [h]

/-- The record of a port that has completed its switch (R110). -/
def switched (mode : Nat) (vs : List Word) (x : Port) : Port :=
  { writeReading mode vs x with state := .streaming, currentMode := some mode, switch := none, switchTimer := none }

variable {old : Option Nat} {new : Nat}

theorem useValues_switching_other (h : x.state = .switching) (hsw : x.switch = some { oldMode := old, newMode := new })
    (other : new ≠ mode) : useValues p mode vs (s.setPort p x) =
      if old = some mode then watchUpdate (.sensor p) (s.setPort p (writeReading mode vs x)) else s.setPort p x := by
  rw [← takeReading_setPort]
  unfold useValues
  rw [port_setPort_self]
  dsimp only
  rw [h, hsw]
  exact if_neg other.symm

theorem useValues_switching_new (h : x.state = .switching) (hsw : x.switch = some { oldMode := old, newMode := mode }) :
    useValues p mode vs (s.setPort p x) = completeSwitch p { oldMode := old, newMode := mode } vs (s.setPort p x) := by
  unfold useValues
  rw [port_setPort_self]
  dsimp only
  rw [h, hsw]
  exact if_pos rfl

theorem completeSwitch_requested (o : Nat) : completeSwitch p { oldMode := some o, newMode := mode } vs (s.setPort p x) =
    watchUpdate (.sensor p) (raiseEvent .modeSet (portNumber p) (BitVec.ofNat 32 mode) (s.setPort p (switched mode vs x))) := by
  rw [completeSwitch, setPort_modPort, ← toWord_natCast]
  rfl

theorem readyArg_eq (code : Byte) (modes : Nat) : readyArg code modes = BitVec.ofNat 32 (code.toNat * 256 + modes) :=
  toWord_natCast (code.toNat * 256 + modes)

theorem completeSwitch_identified {d : Descriptor} (hd : x.descriptor = some d) :
    completeSwitch p { oldMode := none, newMode := mode } vs (s.setPort p x) =
      watchUpdate (.sensor p) (raiseEvent .sensorReady (portNumber p)
          (BitVec.ofNat 32 (d.typeCode.toNat * 256 + d.modes.length))
        (s.setPort p { switched mode vs x with ready := true })) := by
  rw [completeSwitch, setPort_modPort, port_setPort_self, hd]
  show watchUpdate _ (portEvent .sensorReady p _ ((s.setPort p _).modPort p _)) = _
  rw [setPort_modPort, ← readyArg_eq]
  rfl

end

/-- Settles O45: bad messages, the description, and the readings. -/
theorem sensorMessagesJudged : Obligations.SensorMessagesJudged := by
  unfold Obligations.SensorMessagesJudged
  refine ⟨fun p m s => ?_, fun p m s => ?_, fun p m s d => ?_⟩
  · intro x identified bad c hc
    have other : x.state ≠ .describing := by rcases identified with h | h <;> rw [h] <;> decide
    have runs : exec c s = .next (badMessage p s) := by
      have receives := (receives_eq_true x).2 (.inr identified)
      rcases List.mem_cons.1 hc with rfl | hc
      · exact exec_sensorMessage_bad receives (fun h => other h.1) (messageFaulty_eq_true.2 bad)
      · rw [List.mem_singleton.1 hc]
        exact exec_sensorGapTimeout receives
    rw [runs]
    exact ⟨fun few => congrArg _ (badMessage_few few), fun many => ⟨_, congrArg _ (badMessage_identified other many), rfl⟩⟩
  · intro x b empty intact describes describing
    have receives := (receives_eq_true x).2 (.inl describing)
    have sound (h : intact) : messageFaulty m = false := messageFaulty_intact h.1 h.2
    refine ⟨fun h => exec_sensorMessage_passed ⟨describing, h⟩, fun c hc => ?_, fun h kind => ?_, fun h kind kept => ?_⟩
    · have runs : exec c s = .next (badMessage p s) := by
        rcases hc with ⟨rfl, kept, broken⟩ | rfl
        · refine exec_sensorMessage_bad receives (fun h => kept h.2) (messageFaulty_eq_true.2 ?_)
          by_contra sound
          rw [not_or, Bool.not_eq_true, not_ne_iff] at sound
          exact broken sound
        · exact exec_sensorGapTimeout receives
      rw [runs]
      exact ⟨fun few => congrArg _ (badMessage_few few), fun many => congrArg _ (badMessage_describing describing many)⟩
    · have kept : ¬passesOver (s.port p) m := fun h => by
        rw [h.2] at kind
        exact absurd kind (by decide)
      have runs := exec_sensorMessage_good receives kept (sound h)
      rw [useMessage_describe kind describing] at runs
      rw [runs]
      exact ⟨fun code ms h => congrArg _ (useDescribe_body h _), fun h => congrArg _ (useDescribe_illFormed h _)⟩
    · rw [exec_sensorMessage_good receives (fun h => kept h.2) (sound h), useMessage_describing_other kind describing]
      rfl
  · intro x b good counted bytes fits identified hd stop check
    have other : x.state ≠ .describing := by rcases identified with h | h <;> rw [h] <;> decide
    have runs := exec_sensorMessage_good ((receives_eq_true x).2 (.inr identified)) (fun h => other h.1)
      (messageFaulty_intact stop check)
    rw [runs]
    refine ⟨fun kind => congrArg _ (useMessage_other kind identified), fun mode rest kind body few bad => ?_,
      fun mode md vs kind hmd body count each => ?_⟩
    · have none : readingOf (s.port p).descriptor m.body = none := by
        rw [hd, body]
        rcases bad with unknown | ⟨md, known, length⟩
        · exact readingOf_unknown unknown
        · exact readingOf_length known fun same => length (same.trans (by cases md.format <;> rfl))
      rw [useMessage_values kind identified, judgeValues, none]
      exact congrArg _ (badMessage_few few)
    · have taken : readingOf (s.port p).descriptor m.body = some (mode.toNat, vs) := by
        have written : valueBytes md.format = bytes md.format := by
          funext v
          cases md.format <;> rfl
        rw [hd, body, ← written]
        refine readingOf_values hmd count fun v hv => ?_
        have carried := each v hv
        cases hf : md.format <;> simp only [fits, hf] at carried <;> exact carried
      have used : useMessage p m s = useValues p mode.toNat vs (s.setPort p (countedGood (s.port p))) := by
        rw [useMessage_values kind identified, judgeValues, taken]
        rfl
      rw [used]
      intro read done
      refine ⟨fun streaming => congrArg _ (useValues_streaming streaming), fun old new switching hsw =>
        ⟨fun other => congrArg _ (useValues_switching_other switching hsw other), fun same requested => ?_,
          fun same identification => ?_⟩⟩
      · obtain ⟨o, rfl⟩ := Option.isSome_iff_exists.1 requested
        subst same
        exact congrArg _ ((useValues_switching_new (x := countedGood (s.port p)) switching hsw).trans
          (completeSwitch_requested o))
      · subst same identification
        exact congrArg _ ((useValues_switching_new (x := countedGood (s.port p)) switching hsw).trans
          (completeSwitch_identified hd))

/-! ## The line and the timers (R102, R104, R105, R108, R111) -/

section
variable {x : Port}

theorem line_sending {r : SensorRate} {m : SensorTx} {rest : List SensorTx} (hr : x.fixedRate = some r)
    (hm : x.tx = m :: rest) : x.line = .sending r.bps (m.bytes.map sentByte) := by
  rw [Port.line, hr, hm]

theorem exec_sensorMessageSent {m : SensorTx} {rest : List SensorTx} (hm : (s.port p).tx = m :: rest)
    (other : m ≠ .acknowledge) :
    exec (.sensorMessageSent p) s = .next (s.setPort p { s.port p with tx := rest }) := by
  have head : (s.port p).tx.head? ≠ some .acknowledge := by
    rw [hm]
    exact fun h => other (Option.some.inj h)
  refine (congrArg _ (if_neg head)).trans ?_
  rw [State.modPort, hm]
  rfl

theorem exec_acknowledgeSent {rest : List SensorTx} (syncing : (s.port p).state = .syncing)
    (hm : (s.port p).tx = .acknowledge :: rest) : exec (.acknowledgeSent p) s =
      .next (s.setPort p { s.port p with state := .describing, tx := rest, descTimer := some 1000 }) := by
  refine (congrArg _ (if_pos ⟨syncing, by rw [hm]; rfl⟩)).trans ?_
  rw [State.modPort, hm]
  rfl

theorem failIdentification_eq (p : Fin 4) (why : Word) (s : State) : failIdentification p why s =
    raiseEvent .sensorIdFailed (portNumber p) why (s.setPort p (enterSyncing (s.port p))) := rfl

theorem exec_switchTimerExpiry {old : Option Nat} {new : Nat} (out : (s.port p).switchTimer = some 0)
    (hsw : (s.port p).switch = some { oldMode := old, newMode := new }) :
    exec (.switchTimerExpiry p) s = .next (failSwitch p { oldMode := old, newMode := new } s) := by
  show Host.Outcome.next (match ranOut (s.port p).switchTimer, (s.port p).switch with
    | true, some sw => failSwitch p sw s
    | _, _ => s) = _
  rw [(ranOut_eq_true _).2 out, hsw]

theorem exec_switchTimerExpiry_early (early : (s.port p).switchTimer ≠ some 0) :
    exec (.switchTimerExpiry p) s = .next s := by
  show Host.Outcome.next (match ranOut (s.port p).switchTimer, (s.port p).switch with
    | true, some sw => failSwitch p sw s
    | _, _ => s) = _
  rw [(ranOut_eq_false _).2 early]

theorem loseSensor_unready (h : (s.port p).ready = false) (why : Word) :
    loseSensor p why s = s.setPort p (enterSyncing (s.port p)) := by
  rw [loseSensor, loseReady, h, if_neg Bool.false_ne_true]
  rfl

theorem loseSensor_ready (h : (s.port p).ready = true) (why : Word) : loseSensor p why s =
    (raiseEvent .sensorLost (portNumber p) why (s.setPort p (unready (s.port p)))).setPort p
      (unready (enterSyncing (s.port p))) := by
  have lost := loseSensor_setPort (s := s) (p := p) (s.port p) why
  rw [setPort_port, if_pos h] at lost
  exact lost

/-- An expiry of a timer that has not run out does nothing (log entry 7). -/
theorem ranOut_early {t : Option Nat} (h : t ≠ some 0) : ¬ranOut t = true := fun out => h ((ranOut_eq_true t).1 out)

end

/-- Settles O46: what is sent, and each timer early and run out. -/
theorem portLineAndTimers : Obligations.PortLineAndTimers := by
  unfold Obligations.PortLineAndTimers
  refine ⟨fun p s => ⟨fun rest syncing hm => exec_acknowledgeSent syncing hm,
    fun m rest hm other => exec_sensorMessageSent hm other, fun r m rest hr hm => ?_, portLine_idle,
    fun out => congrArg _ (if_pos ((ranOut_eq_true _).2 out)), fun early => congrArg _ (if_neg (ranOut_early early)),
    fun early => congrArg _ (if_neg (ranOut_early early)), exec_switchTimerExpiry_early,
    fun early => congrArg _ (if_neg (ranOut_early early))⟩, fun p s => ?_⟩
  · intro bytes
    refine (line_sending hr hm).trans ?_
    cases m <;> rfl
  · intro x b empty
    refine ⟨fun out => congrArg _ ((if_pos ((ranOut_eq_true _).2 out)).trans (failIdentification_eq ..)),
      fun new out hsw => exec_switchTimerExpiry out hsw, fun old new out hsw => ?_, fun out unready => ?_, fun out ready => ?_⟩
    · rw [exec_switchTimerExpiry out hsw, ← toWord_natCast]
      rfl
    · exact congrArg _ ((if_pos ((ranOut_eq_true _).2 out)).trans (loseSensor_unready unready 1))
    · exact congrArg _ ((if_pos ((ranOut_eq_true _).2 out)).trans (loseSensor_ready ready 1))

/-! ## Requests (R109, R114) -/

theorem portOf_number (p : Fin 4) : portOf (portNumber p) = some p :=
  (portOf_eq_some _ _).2 (by rw [portNumber, toByte, BitVec.toNat_ofNat]; omega)

theorem portOf_none {q : Byte} (h : q = 0 ∨ 4 < q.toNat) : portOf q = none :=
  Option.eq_none_iff_forall_ne_some.2 fun p hp => by
    have := (portOf_eq_some q p).1 hp
    rcases h with rfl | h
    · exact absurd this (by simp)
    · omega

section
variable {h : ReqCtx} {mode : Byte}

theorem doSetSensorMode_mode (streaming : (s.port p).state = .streaming) {md : ModeDesc}
    (known : (s.port p).modeDesc mode.toNat = some md) : doSetSensorMode h (portNumber p) mode s =
      answer h .accepted [toByte md.count, md.format.code, BitVec.ofInt 8 md.scale]
        (s.setPort p (startSwitch mode.toNat (s.port p))) := by
  rw [doSetSensorMode, portOf_number]
  dsimp only
  rw [streaming]
  dsimp only
  rw [known]
  rfl

theorem doSetSensorMode_unknown (streaming : (s.port p).state = .streaming)
    (unknown : (s.port p).modeDesc mode.toNat = none) : doSetSensorMode h (portNumber p) mode s = answer h .badArg [] s := by
  rw [doSetSensorMode, portOf_number]
  dsimp only
  rw [streaming]
  dsimp only
  rw [unknown]

theorem doSetSensorMode_switching (switching : (s.port p).state = .switching) :
    doSetSensorMode h (portNumber p) mode s = answer h .busy [] s := by
  rw [doSetSensorMode, portOf_number]
  dsimp only
  rw [switching]

theorem doSetSensorMode_notReady (not_switching : (s.port p).state ≠ .switching)
    (not_streaming : (s.port p).state ≠ .streaming) :
    doSetSensorMode h (portNumber p) mode s = answer h .notReady [] s := by
  rw [doSetSensorMode, portOf_number]
  dsimp only
  cases hs : (s.port p).state with
  | switching => exact absurd hs not_switching
  | streaming => exact absurd hs not_streaming
  | _ => rfl

end

/-- Settles O47: a request for no port, then the port's state. -/
theorem portRequests : Obligations.PortRequests := by
  unfold Obligations.PortRequests
  refine ⟨fun h p mode s => ⟨fun q hq => ?_, fun not_switching not_streaming =>
    congrArg _ (doSetSensorMode_notReady not_switching not_streaming), fun switching =>
    congrArg _ (doSetSensorMode_switching switching),
    fun d md old streaming hd current => ⟨fun unknown => ?_, fun known => ?_⟩⟩,
    fun h p s => ⟨?_, fun q hq => ?_⟩⟩
  · show Host.Outcome.next (doSetSensorMode h q mode s) = _
    rw [doSetSensorMode, portOf_none hq]
  · exact congrArg _ (doSetSensorMode_unknown streaming (by rw [Port.modeDesc, hd]; exact unknown))
  · have start : startSwitch mode.toNat (s.port p) = send (.select mode.toNat) { s.port p with
        state := .switching, switch := some { oldMode := some old, newMode := mode.toNat }, switchTimer := some 250 } := by
      have now : (s.port p).currentMode.getD 0 = old := by rw [current, Option.getD_some]
      rw [startSwitch, now]
    exact congrArg _ ((doSetSensorMode_mode streaming (by rw [Port.modeDesc, hd]; exact known)).trans
      (congrArg (fun x => answer h _ _ (s.setPort p x)) start))
  · show Host.Outcome.next (doPortReset h (portNumber p) s) = _
    rw [doPortReset, portOf_number]
    rfl
  · show Host.Outcome.next (doPortReset h q s) = _
    rw [doPortReset, portOf_none hq]

end Sys2Proof.Machine
end

section
/-! PROOFS. The watch unit: evaluation and actions, and the requests that set, clear and rearm (R116 to R124). -/

namespace Sys2Proof.Machine

variable {k : Fin 8} {w : Watch} {o : Option Watch} {v : Word} {s : State}

/-! ## What an action leaves of the watches (R56, R122) -/

theorem releaseChannel_watches (k : Fin 8) (c : Fin 4) (s : State) : (releaseChannel k c s).watches = s.watches := by
  unfold releaseChannel
  simp only
  split <;> rfl

theorem releaseHolds_watches (k : Fin 8) (a : WatchAction) (s : State) : (releaseHolds k a s).watches = s.watches := by
  unfold releaseHolds
  split
  · exact forEach_frame State.watches _ (releaseChannel_watches k) s
  · exact forEach_frame State.watches _ (releaseChannel_watches k) s
  · split
    · rfl
    · exact (tellCondition_told ..).watches
  · rfl

/-- A DISARMED watch, or one whose last evaluation was true, is passed over by a rearming (R56). -/
def PassedOver (o : Option Watch) : Prop := ∀ w, o = some w → w.lastEval = true

theorem rearmIf_watch (hk : s.watch k = o) (passed : PassedOver o) (j : Fin 8) :
    (rearmIf j s).watch k = o := by
  cases hj : s.watch j with
  | none => rwa [rearmIf_none hj]
  | some x =>
    rw [rearmIf_some hj]
    split
    · rename_i takes
      have other : k ≠ j := by
        rintro rfl
        rw [passed x (hk.symm.trans hj), Bool.not_true, Bool.and_false] at takes
        contradiction
      have rearmed : (s.setWatch j (some { x with state := .armed, lastEval := false })).watch k = o := by
        rw [watch_setWatch, if_neg other, hk]
      unfold rearmWatch
      simp only
      split
      · rw [watch_of_watches (releaseHolds_watches ..), rearmed]
      · exact rearmed
    · exact hk

theorem startAction_watches (s : State) : (startAction s).watches = s.watches := by
  unfold startAction
  split
  · unfold takeNote
    simp only
    split <;> simp
  · simp [soundDone]
  · rfl

theorem applyAction_watch {a : CueAction} {t : State} (h : applyAction a s = .ok t) (hk : s.watch k = o)
    (passed : PassedOver o) : t.watch k = o := by
  have frame {t : State} (ht : t.watches = s.watches) : t.watch k = o := (watch_of_watches ht k).trans hk
  unfold applyAction at h
  split at h
  · split at h
    · cases h
    · split at h
      · split at h
        · cases h
        · cases h
          exact frame rfl
      · cases h
        exact frame rfl
  · split at h
    · cases h
    · cases h
      exact frame (startAction_watches s)
  · split at h
    · cases h
    · cases h
      exact frame rfl
  · cases h
    exact frame (by rw [takeSnapshots_eq])
  · cases h
    exact forEach_induct (P := fun t => t.watch k = o) all8 (fun j _ t ht => rearmIf_watch ht passed j) hk

theorem applyEntries_watch (n : Nat) (es : List CueEntry) (hk : s.watch k = o) (passed : PassedOver o) :
    (applyEntries n es s).1.watch k = o := by
  induction es generalizing s with
  | nil => exact hk
  | cons e es ih =>
    by_cases mine : e.cue = n
    · cases applied : applyAction e.action s with
      | ok t => exact (applyEntries_applied mine applied es) ▸ ih (applyAction_watch applied hk passed)
      | error why => exact (applyEntries_refused mine applied es) ▸ ih (by rw [watch_raiseEvent, hk])
    · rw [applyEntries_other mine]
      exact ih hk

theorem takeCueFrame_watch (payload : List Byte) (hk : s.watch k = o) (passed : PassedOver o) :
    (takeCueFrame payload s).watch k = o := by
  unfold takeCueFrame
  split
  · split
    · rw [takeCue, watch_raiseEvent]
      exact applyEntries_watch _ _ hk passed
    · exact hk
  · exact hk

theorem watchAct_watch (i : Fin 8) (a : WatchAction) (hk : s.watch k = o) (passed : PassedOver o) :
    (watchAct i a s).watch k = o := by
  have frame {t : State} (ht : t.watches = s.watches) : t.watch k = o := (watch_of_watches ht k).trans hk
  cases a with
  | notify => exact hk
  | stopSound => exact frame rfl
  | tripBrake set => exact frame (forEach_frame State.watches (f := tripChannel i .brake) _ (fun _ _ => rfl) s)
  | tripCoast set => exact frame (forEach_frame State.watches (f := tripChannel i .coast) _ (fun _ _ => rfl) s)
  | fault =>
    rw [watchAct]
    split
    · exact hk
    · exact frame (tellCondition_told ..).watches
  | sendCue mask cue =>
    simp only [watchAct, watchCue]
    split
    · exact takeCueFrame_watch _ hk passed
    · split
      · exact frame (offer_watches ..)
      · exact frame (by rw [raiseEvent_watches, offer_watches])

/-! ## Evaluation (R120 to R123) -/

/-- The record of a watch once it has been evaluated (R121). -/
def evaluated (w : Watch) (x : WatchState) (holds : Bool) : Option Watch := some { w with state := x, lastEval := holds }

theorem evaluate_fires (holds : conditionHolds w v.toInt = true) (armed : w.state = .armed) :
    evaluate k w v s = watchFire k w v s := by
  rw [evaluate, if_pos holds, armed]

theorem evaluate_rests (holds : conditionHolds w v.toInt = false) (unfired : w.state ≠ .fired) :
    evaluate k w v s = s.setWatch k (evaluated w w.state false) := by
  rw [evaluate, holds, if_neg Bool.false_ne_true]
  obtain ⟨state⟩ := w
  cases state with
  | fired => exact absurd rfl unfired
  | _ => rfl

theorem evaluate_holds (holds : conditionHolds w v.toInt = true) (unarmed : w.state ≠ .armed) :
    evaluate k w v s = s.setWatch k (evaluated w w.state true) := by
  rw [evaluate, if_pos holds]
  obtain ⟨state⟩ := w
  cases state with
  | armed => exact absurd rfl unarmed
  | _ => rfl

theorem evaluate_released (holds : conditionHolds w v.toInt = false) (fired : w.state = .fired) :
    evaluate k w v s = s.setWatch k (evaluated w (if releaseTest w v.toInt then .armed else .fired) false) := by
  rw [evaluate, holds, if_neg Bool.false_ne_true]
  obtain ⟨state⟩ := w
  subst fired
  exact (apply_ite (fun x => s.setWatch k (evaluated _ x false)) ..).symm

theorem evaluate_tripped (h : w.state = .tripped) :
    evaluate k w v s = s.setWatch k (evaluated w .tripped (conditionHolds w v.toInt)) := by
  cases holds : conditionHolds w v.toInt with
  | false => rw [evaluate_rests holds (by rw [h]; decide), h]
  | true => rw [evaluate_holds holds (by rw [h]; decide), h]

theorem watch_evaluate (k : Fin 8) (w : Watch) (v : Word) (s : State) :
    ∃ x, (evaluate k w v s).watch k = some x ∧ x.lastEval = conditionHolds w v.toInt := by
  have at_k {x : WatchState} {b : Bool} (ht : evaluate k w v s = s.setWatch k (evaluated w x b)) :
      ∃ x, (evaluate k w v s).watch k = some x ∧ x.lastEval = b := ⟨_, by rw [ht, watch_setWatch_self]; rfl, rfl⟩
  cases holds : conditionHolds w v.toInt with
  | false =>
    by_cases fired : w.state = .fired
    · exact at_k (evaluate_released holds fired)
    · exact at_k (evaluate_rests holds fired)
  | true =>
    by_cases armed : w.state = .armed
    · rw [evaluate_fires holds armed]
      unfold watchFire
      split <;> exact ⟨_, watchAct_watch _ _ (by rw [watch_raiseEvent, watch_setWatch_self]) (by rintro _ ⟨⟩; rfl), rfl⟩
    · exact at_k (evaluate_holds holds armed)

/-- An evaluation leaves every DISARMED watch DISARMED. -/
theorem watch_evaluate_other {j : Fin 8} (other : j ≠ k) (hj : s.watch j = none) : (evaluate k w v s).watch j = none := by
  have elsewhere (x : Option Watch) : (s.setWatch k x).watch j = none := by rw [watch_setWatch, if_neg other, hj]
  have passed : PassedOver none := nofun
  cases holds : conditionHolds w v.toInt with
  | false =>
    by_cases fired : w.state = .fired
    · rw [evaluate_released holds fired, elsewhere]
    · rw [evaluate_rests holds fired, elsewhere]
  | true =>
    by_cases armed : w.state = .armed
    · rw [evaluate_fires holds armed]
      unfold watchFire
      split <;> exact watchAct_watch _ _ ((watch_raiseEvent ..).trans (elsewhere _)) passed
    · rw [evaluate_holds holds armed, elsewhere]

/-- The state of an ARMED watch that fires, before its action (R122, R123). -/
def firing (k : Fin 8) (w : Watch) (v : Word) (s : State) : State :=
  raiseEvent .watchFired (toByte k.val) v (s.setWatch k (evaluated w .fired true))

/-- The state of an ARMED watch that trips, before its action (R123). -/
def tripping (k : Fin 8) (w : Watch) (v : Word) (s : State) : State :=
  raiseEvent .watchTripped (toByte k.val) v (s.setWatch k (evaluated w .tripped true))

theorem watchFire_fired (h : w.action.latching = false) : watchFire k w v s = watchAct k w.action (firing k w v s) :=
  if_neg (by rw [h]; exact Bool.false_ne_true)

theorem watchFire_tripped (h : w.action.latching = true) : watchFire k w v s = watchAct k w.action (tripping k w v s) :=
  if_pos h

theorem stopNow_eq (x : Sound) : stopNow x = if x.player = .stopped then x
    else { x with player := .stopped, current := none, count := 0, stopAtEnd := false, nextCompare := 250 } := by
  unfold stopNow
  cases h : x.player <;> rfl

theorem watchCue_offers (h : s.standalone = false) (mask cue : Byte) :
    watchCue k mask cue s = if (offer (.cueWatch k) [mask, cue] s).2 then (offer (.cueWatch k) [mask, cue] s).1
      else raiseEvent .watchCueLost (toByte k.val) (cue.setWidth 32) s := by
  rw [watchCue, h]
  refine (if_neg Bool.false_ne_true).trans ?_
  cases queued : enqueue (newFrame s.link.own (.cueWatch k) [mask, cue]) s.link with
  | none => rw [offer_refused h queued]
  | some m =>
    rw [offer_taken h queued]
    exact (if_pos rfl).trans (if_pos rfl).symm

theorem forEach_modChan_chans (l : List (Fin 4)) (f : Channel → Channel) (s : State) :
    forEach l (fun c t => t.modChan c f) s = { s with chans := (forEach l (fun c t => t.modChan c f) s).chans } :=
  forEach_induct (P := fun t => t = { s with chans := t.chans }) l (fun c _ t ht => by
    rw [ht]
    rfl) rfl

theorem otherFaultHeld_eq_true (k : Fin 8) (s : State) : otherFaultHeld k s = true ↔
    ∃ (j : Fin 8) (x : Watch), j ≠ k ∧ s.watch j = some x ∧ x.state = .tripped ∧ x.action = .fault := by
  have held (o : Option Watch) : holdsFault o = true ↔ ∃ x, o = some x ∧ x.state = .tripped ∧ x.action = .fault := by
    cases o with
    | none => simp [holdsFault]
    | some x => simp [holdsFault]
  simp only [otherFaultHeld, List.any_eq_true, mem_all8, true_and, Bool.and_eq_true, bne_iff_ne, held, exists_and_left]

theorem otherFaultHeld_tripping : otherFaultHeld k (tripping k w v s) = otherFaultHeld k s := by
  rw [Bool.eq_iff_iff, otherFaultHeld_eq_true, otherFaultHeld_eq_true]
  refine exists_congr fun j => exists_congr fun x => and_congr_right fun other => ?_
  rw [tripping, watch_raiseEvent, watch_setWatch, if_neg other]

theorem watchAct_fault (h : otherFaultHeld k s = false) : watchAct k .fault s = tellCondition srcWatch true s :=
  if_neg (by rw [h]; exact Bool.false_ne_true)

/-- A condition that begins with no grace time and the reaction REPORT (R147, R148). -/
theorem tellCondition_reports {i : Fin 8} (quiet : (s.source i).condition = false) (inactive : (s.source i).state = .inactive)
    (grace : (s.source i).grace = 0) (reaction : (s.source i).reaction = .report) : tellCondition i true s =
      raiseEvent .faultLatched (toByte i.val) 1
        (s.setSource i { s.source i with condition := true, state := .latched, timer := none }) := by
  rw [tellCondition_begins quiet, conditionBegin_latches inactive grace, latch_eq, source_setSource_self]
  simp only [reaction, setSource_setSource]
  rfl

/-! ## Updates (R116, R119) -/

/-- The value an update hands to a subject: of the port, mirror, channel or supply it is of (R116, R119). -/
def updateValue (u : Update) (x : Subject) (s : State) : Option Word := if u.concerns x then subjectValue x s else none

theorem evaluateAt_some (hk : s.watch k = some w) (u : Update) :
    evaluateAt u k s = (updateValue u w.subject s).elim s fun v => evaluate k w v s := by
  unfold evaluateAt updateValue
  rw [hk]
  cases hu : u.concerns w.subject with
  | false => simp only [hu, Bool.false_eq_true, if_false, Option.elim_none]
  | true => cases hv : subjectValue w.subject s <;> simp only [hu, hv, if_true, Option.elim_none, Option.elim_some]

theorem releaseTest_not_holds {w : Watch} {v : Int} (h : releaseTest w v = true) : conditionHolds w v = false := by
  unfold releaseTest at h
  unfold conditionHolds
  cases hc : w.condition <;> simp only [hc, decide_eq_true_eq, decide_eq_false_iff_not] at h ⊢ <;> omega

/-- Settles O48: the condition, the states with their actions, and the order of an update. -/
theorem watchEvaluates : Obligations.WatchEvaluates := by
  unfold Obligations.WatchEvaluates
  refine ⟨fun w v => ?_, fun k w v s => ?_, fun u s => ?_⟩
  · intro lo hi h
    refine ⟨fun hc => ?_, fun hc => ?_, fun hc => ?_, fun hc => ?_, releaseTest_not_holds⟩ <;>
      simp only [conditionHolds, releaseTest, hc] <;> exact ⟨rfl, rfl⟩
  · intro b holds st
    have fires (armed : w.state = .armed) (hh : holds = true) : evaluate k w v s = watchFire k w v s :=
      evaluate_fires hh armed
    have fired (hh : holds = true) : firing k w v s = raiseEvent .watchFired b v (st .fired) := by
      rw [firing, ← hh]
      rfl
    have trips (hh : holds = true) : tripping k w v s = raiseEvent .watchTripped b v (st .tripped) := by
      rw [tripping, ← hh]
      rfl
    refine ⟨fun armed hh => ?_, fun armed hh action => ?_, fun armed hh action => ?_, fun mask cue armed hh action => ?_,
      fun set m armed hh action => ?_, fun armed hh action => ?_, fun is_fired hh => ?_, fun is_fired hh => ?_,
      evaluate_tripped, watch_evaluate k w v s⟩
    · rw [evaluate_rests hh (by rw [armed]; decide), armed, ← hh]
      rfl
    · rw [fires armed hh, watchFire_fired (by rw [action]; rfl), fired hh, action]
      rfl
    · rw [fires armed hh, watchFire_fired (by rw [action]; rfl), fired hh, action]
      show State.withSound _ (stopNow _) = _
      rw [stopNow_eq, raiseEvent_sound]
      rfl
    · rw [fires armed hh, watchFire_fired (by rw [action]; rfl), fired hh, action]
      intro t o
      have alone : t.standalone = s.standalone := standalone_raiseEvent ..
      cases hs : s.standalone with
      | true => exact if_pos (alone.trans hs)
      | false => exact watchCue_offers (alone.trans hs) mask cue
    · have latches : w.action.latching = true := by rcases action with ⟨h, -⟩ | ⟨h, -⟩ <;> rw [h] <;> rfl
      have acts : ∃ f, (∀ ch, f ch = { ch with
          mode := m, integ := 0, duty := 0, nextC := 0, settle := 0, moveDone := false, lapse := false,
          tripHolders := ch.tripHolders ||| BitVec.ofNat 8 (2 ^ k.val) }) ∧
          evaluate k w v s = forEach (channelsOf set) (fun c t => t.modChan c f)
              (raiseEvent .watchTripped b v (st .tripped)) := by
        rw [fires armed hh, watchFire_tripped latches, trips hh]
        rcases action with ⟨h, rfl⟩ | ⟨h, rfl⟩ <;> rw [h] <;> exact ⟨_, fun _ => rfl, rfl⟩
      obtain ⟨f, hf, runs⟩ := acts
      rw [runs]
      refine ⟨_, forEach_modChan_chans .., fun c => ?_⟩
      have at_c := chan_forEach_modChan (nodup_channelsOf set) f (raiseEvent .watchTripped b v (st .tripped)) c
      rw [chan_raiseEvent] at at_c
      refine at_c.trans (if_congr (mem_channelsOf set c) ?_ rfl)
      exact hf _
    · intro t f
      have acts : evaluate k w v s = watchAct k .fault t := by
        rw [fires armed hh, watchFire_tripped (by rw [action]; rfl), trips hh, action]
      have others : otherFaultHeld k t = otherFaultHeld k s := by
        rw [← otherFaultHeld_tripping (s := s) (w := w) (v := v), trips hh]
      have source : t.source 7 = f := source_raiseEvent ..
      clear_value t
      rw [acts]
      refine ⟨fun held => if_pos (others.trans ((otherFaultHeld_eq_true k s).2 held)), fun alone => ?_⟩
      have free : otherFaultHeld k t = false := by
        rw [others, ← Bool.not_eq_true, otherFaultHeld_eq_true]
        rintro ⟨j, x, other, hj, held⟩
        exact alone j x other hj held
      rw [watchAct_fault free]
      refine ⟨fun present => ?_, fun quiet inactive grace reaction => ?_⟩
      · have same := tellCondition_same srcWatch t
        rwa [show (t.source srcWatch).condition = true from (congrArg _ source).trans present] at same
      · have reports := tellCondition_reports (s := t) (i := 7) (by rw [source, quiet]) (by rw [source, inactive])
          (by rw [source, grace]) (by rw [source, reaction])
        rw [source] at reports
        exact reports
    · rw [evaluate_holds hh (by rw [is_fired]; decide), is_fired, ← hh]
      rfl
    · rw [evaluate_released hh is_fired, ← hh]
      rfl
  · intro value visit
    have swap {n : Nat} {i j : Fin n} (f : Fin n → Option Word) :
        (if i = j then f j else none) = if (j == i) = true then f i else none := by
      by_cases h : i = j
      · rw [if_pos h, if_pos (beq_iff_eq.2 h.symm), h]
      · rw [if_neg h, if_neg fun same => h (beq_iff_eq.1 same).symm]
    have same (x : Subject) (t : State) : value x t = updateValue u x t := by
      cases u with
      | sensor p => cases x with
        | sensor q n => exact swap (fun q => (t.port q).reading.values[n]?)
        | _ => rfl
      | mirror j => cases x with
        | mirror i => exact swap (fun i => (t.entry i).map fun e => e.value)
        | _ => rfl
      | motor c => cases x with
        | motorPosition d => exact swap (fun d => some (t.chan d).position)
        | motorSpeed d => exact swap (fun d => some (BitVec.ofInt 32 (t.chan d).speed))
        | _ => rfl
      | supply => cases x with
        | supply => exact congrArg some (toWord_natCast _).symm
        | _ => rfl
    have visits : visit = fun t k => evaluateAt u k t := by
      funext t k
      cases hk : t.watch k with
      | none => simp only [visit, hk, evaluateAt_unwatched hk]
      | some w =>
        simp only [visit, hk, evaluateAt_some hk, same]
        cases updateValue u w.subject t <;> rfl
    rw [visits]
    rfl

end Sys2Proof.Machine
end

section
/-! PROOFS. The requests of the watch unit, and what a trip lets go of (R74, R117, R118, R124). -/

namespace Sys2Proof.Machine

variable {k : Fin 8} {s : State}

/-! ## Arguments of SET_WATCH (R117) -/

theorem watchOf_eq_some (b : Byte) (k : Fin 8) : watchOf b = some k ↔ b.toNat = k.val := by
  simp [watchOf, Fin.ext_iff]
  omega

theorem watchOf_ofNat (k : Fin 8) : watchOf (BitVec.ofNat 8 k.val) = some k :=
  (watchOf_eq_some _ _).2 (by rw [BitVec.toNat_ofNat]; omega)

theorem watchOf_none {b : Byte} (h : 7 < b.toNat) : watchOf b = none := dif_neg (by omega)

/-- The bytes of a SET_WATCH request name a subject (R117). -/
def NamesSubject (w : RawWatch) (s : State) : Subject → Prop
  | .sensor p n => w.subject = 1 ∧ w.which.toNat = p.val + 1 ∧ w.valueNumber.toNat = n ∧ n ≤ 3
  | .mirror j => w.subject = 2 ∧ w.which.toNat = j.val ∧ (s.entry j).isSome = true
  | .motorPosition c => w.subject = 3 ∧ w.which.toNat = c.val
  | .motorSpeed c => w.subject = 4 ∧ w.which.toNat = c.val
  | .supply => w.subject = 5

theorem subjectOf_sensor (a b n : Byte) (p : Fin 4) (m : Nat) :
    subjectOf a b n = some (.sensor p m) ↔ a = 1#8 ∧ b.toNat = p.val + 1 ∧ n.toNat = m ∧ m ≤ 3 := by
  have kind : a = 1#8 ↔ a.toNat = 1 := by bv_omega
  unfold subjectOf
  split
  case h_1 h =>
    rw [kind, h, ← portOf_eq_some]
    cases portOf b with
    | none => simp
    | some q =>
      simp only [ite_eq_iff, Option.some.injEq, Subject.sensor.injEq, reduceCtorEq, and_false, or_false, true_and]
      constructor
      · rintro ⟨h3, rfl, rfl⟩
        exact ⟨rfl, rfl, h3⟩
      · rintro ⟨rfl, rfl, h3⟩
        exact ⟨h3, rfl, rfl⟩
  all_goals simp_all

theorem subjectOf_mirror (a b n : Byte) (j : Fin 16) :
    subjectOf a b n = some (.mirror j) ↔ a = 2#8 ∧ b.toNat = j.val := by
  have kind : a = 2#8 ↔ a.toNat = 2 := by bv_omega
  unfold subjectOf
  split <;> simp_all [listenOf_eq_some]
  split <;> simp_all

theorem subjectOf_motorPosition (a b n : Byte) (c : Fin 4) :
    subjectOf a b n = some (.motorPosition c) ↔ a = 3#8 ∧ b.toNat = c.val := by
  have kind : a = 3#8 ↔ a.toNat = 3 := by bv_omega
  unfold subjectOf
  split <;> simp_all [channelOf_eq_some]
  split <;> simp_all

theorem subjectOf_motorSpeed (a b n : Byte) (c : Fin 4) :
    subjectOf a b n = some (.motorSpeed c) ↔ a = 4#8 ∧ b.toNat = c.val := by
  have kind : a = 4#8 ↔ a.toNat = 4 := by bv_omega
  unfold subjectOf
  split <;> simp_all [channelOf_eq_some]
  split <;> simp_all

theorem subjectOf_supply (a b n : Byte) : subjectOf a b n = some .supply ↔ a = 5#8 := by
  have kind : a = 5#8 ↔ a.toNat = 5 := by bv_omega
  unfold subjectOf
  split <;> simp_all
  split <;> simp_all

theorem namesSubject_iff (w : RawWatch) (s : State) (x : Subject) : NamesSubject w s x ↔
    subjectOf w.subject w.which w.valueNumber = some x ∧ subjectUnused x s = false := by
  cases x with
  | sensor p n => simp [NamesSubject, subjectUnused, subjectOf_sensor]
  | mirror j => simp [NamesSubject, subjectUnused, subjectOf_mirror, and_assoc, Option.isSome_iff_ne_none]
  | motorPosition c => simp [NamesSubject, subjectUnused, subjectOf_motorPosition]
  | motorSpeed c => simp [NamesSubject, subjectUnused, subjectOf_motorSpeed]
  | supply => simp [NamesSubject, subjectUnused, subjectOf_supply]

/-- The byte of a SET_WATCH request names a condition (R117). -/
def NamesCondition (w : RawWatch) : Condition → Prop
  | .above => w.condition = 0
  | .below => w.condition = 1
  | .outside => w.condition = 2
  | .inside => w.condition = 3

theorem namesCondition_iff (w : RawWatch) (c : Condition) : NamesCondition w c ↔ conditionOf w.condition = some c := by
  have byte (n : Nat) (h : n < 256) : w.condition = BitVec.ofNat 8 n ↔ w.condition.toNat = n := by
    rw [BitVec.toNat_eq, BitVec.toNat_ofNat, Nat.mod_eq_of_lt h]
  unfold conditionOf
  cases c with
  | above => refine (byte 0 (by decide)).trans ?_; split <;> simp_all
  | below => refine (byte 1 (by decide)).trans ?_; split <;> simp_all
  | outside => refine (byte 2 (by decide)).trans ?_; split <;> simp_all
  | inside => refine (byte 3 (by decide)).trans ?_; split <;> simp_all

/-- The bytes of a SET_WATCH request name an action (R117). -/
def NamesAction (w : RawWatch) : WatchAction → Prop
  | .notify => w.action = 0
  | .sendCue mask cue => w.action = 1 ∧ w.mask = mask ∧ w.cue = cue ∧ 1 ≤ cue.toNat ∧ cue.toNat ≤ 15
  | .tripBrake set => w.action = 2 ∧ set = w.mask.extractLsb' 0 4 ∧ set ≠ 0
  | .tripCoast set => w.action = 3 ∧ set = w.mask.extractLsb' 0 4 ∧ set ≠ 0
  | .stopSound => w.action = 4
  | .fault => w.action = 5

theorem namesAction_iff (w : RawWatch) (a : WatchAction) : NamesAction w a ↔ actionOf w.action w.mask w.cue = some a := by
  have byte (n : Nat) (h : n < 256) : w.action = BitVec.ofNat 8 n ↔ w.action.toNat = n := by
    rw [BitVec.toNat_eq, BitVec.toNat_ofNat, Nat.mod_eq_of_lt h]
  unfold actionOf
  cases a with
  | notify => refine (byte 0 (by decide)).trans ?_; split <;> simp_all [ite_eq_iff]
  | sendCue mask cue =>
    refine (and_congr_left' (byte 1 (by decide))).trans ?_
    split <;> simp_all [ite_eq_iff]
    constructor
    · rintro ⟨rfl, rfl, range⟩
      exact ⟨range, rfl, rfl⟩
    · rintro ⟨range, rfl, rfl⟩
      exact ⟨rfl, rfl, range⟩
  | tripBrake set =>
    refine (and_congr_left' (byte 2 (by decide))).trans ?_
    split <;> simp_all [ite_eq_iff]
    constructor
    · rintro ⟨rfl, some_channel⟩
      exact ⟨some_channel, rfl⟩
    · rintro ⟨some_channel, rfl⟩
      exact ⟨rfl, some_channel⟩
  | tripCoast set =>
    refine (and_congr_left' (byte 3 (by decide))).trans ?_
    split <;> simp_all [ite_eq_iff]
    constructor
    · rintro ⟨rfl, some_channel⟩
      exact ⟨some_channel, rfl⟩
    · rintro ⟨some_channel, rfl⟩
      exact ⟨rfl, some_channel⟩
  | stopSound => refine (byte 4 (by decide)).trans ?_; split <;> simp_all [ite_eq_iff]
  | fault => refine (byte 5 (by decide)).trans ?_; split <;> simp_all [ite_eq_iff]

/-- The record of a watch just set (R117). -/
def setRecord (w : RawWatch) (x : Subject) (c : Condition) (a : WatchAction) : Watch :=
  { state := .armed, subject := x, condition := c, lo := w.lo, hi := w.hi, hysteresis := w.hysteresis, action := a,
    lastEval := false }

theorem watchRecord_some {w : RawWatch} {x : Subject} {c : Condition} {a : WatchAction} (hx : NamesSubject w s x)
    (hc : NamesCondition w c) (ha : NamesAction w a) (range : w.lo.toInt ≤ w.hi.toInt) :
    watchRecord w s = some (setRecord w x c a) := by
  obtain ⟨subject, used⟩ := (namesSubject_iff w s x).1 hx
  rw [watchRecord, subject, (namesCondition_iff w c).1 hc, (namesAction_iff w a).1 ha]
  dsimp only
  rw [used, if_neg Bool.false_ne_true, if_neg (by omega), setRecord]

theorem watchRecord_none {w : RawWatch} (bad : (∀ x, ¬NamesSubject w s x) ∨ (∀ c, ¬NamesCondition w c) ∨
    w.hi.toInt < w.lo.toInt ∨ (∀ a, ¬NamesAction w a)) : watchRecord w s = none := by
  unfold watchRecord
  split
  case h_2 => rfl
  case h_1 x c a hx hc ha =>
    split
    · rfl
    · rename_i used
      have named := (namesSubject_iff w s x).2 ⟨hx, Bool.not_eq_true _ ▸ used⟩
      refine if_pos ?_
      rcases bad with none_named | none_named | empty | none_named
      · exact absurd named (none_named x)
      · exact absurd ((namesCondition_iff w c).2 hc) (none_named c)
      · exact empty
      · exact absurd ((namesAction_iff w a).2 ha) (none_named a)

theorem doSetWatch_refused {w : RawWatch} {b : Byte} (h : ReqCtx) (bad : watchOf b = none ∨ watchRecord w s = none) :
    doSetWatch h b w s = answer h .badArg [] s := by
  unfold doSetWatch
  split
  · rename_i hk hx
    rcases bad with bad | bad
    · rw [bad] at hk
      contradiction
    · rw [bad] at hx
      contradiction
  · rfl

theorem doSetWatch_record {w : RawWatch} {x : Watch} (h : ReqCtx) (hx : watchRecord w s = some x) :
    doSetWatch h (BitVec.ofNat 8 k.val) w s = if isTripped (s.watch k) then answer h .busy [] s
      else answer h .ok [watchCode (s.watch k)] (s.setWatch k (some x)) := by
  rw [doSetWatch, watchOf_ofNat, hx]

theorem isTripped_eq_true (o : Option Watch) : isTripped o = true ↔ ∃ y ∈ o.toList, y.state = .tripped := by
  cases o <;> simp [isTripped]

/-! ## What a trip lets go of (R124) -/

theorem forEach_channelsOf (set : BitVec 4) (f : Fin 4 → State → State) (s : State) :
    forEach (channelsOf set) f s = [0, 1, 2, 3].foldl (fun t c => if set.getLsbD c.val then f c t else t) s :=
  List.foldl_filter

theorem releaseHolds_fault (k : Fin 8) (s : State) : releaseHolds k .fault s =
    if ∃ j : Fin 8, j ≠ k ∧ ∃ x ∈ (s.watch j).toList, x.state = .tripped ∧ x.action = .fault then s
    else tellCondition 7 false s := by
  refine if_congr ((otherFaultHeld_eq_true k s).trans ?_) rfl rfl
  simp only [Option.mem_toList, exists_and_left]

theorem clearWatch_some {w : Watch} (hk : s.watch k = some w) : clearWatch k s =
    (if w.state = .tripped then releaseHolds k w.action s else s).setWatch k none := by
  rw [clearWatch, hk]

theorem clearWatch_none (hk : s.watch k = none) : clearWatch k s = s := by
  rw [clearWatch, hk]

/-- What a rearming makes of one watch (R124). -/
theorem rearmIf_takes {w : Watch} (hk : s.watch k = some w) : rearmIf k s =
    if w.state = .armed ∨ w.lastEval = true then s
    else if w.state = .tripped then releaseHolds k w.action (s.setWatch k (some { w with state := .armed }))
      else s.setWatch k (some { w with state := .armed }) := by
  rw [rearmIf_some hk, acted_iff]
  obtain ⟨state, subject, condition, lo, hi, hysteresis, action, last⟩ := w
  cases state <;> cases last <;> rfl

theorem sourceMask_ne_zero (p : Fin 8 → Bool) : sourceMask p ≠ 0 ↔ ∃ k, p k = true := by
  constructor
  · intro h
    by_contra none
    have clear : p = fun _ => false := funext fun k => Bool.not_eq_true _ ▸ fun hk => none ⟨k, hk⟩
    exact h (by rw [clear]; rfl)
  · rintro ⟨k, hk⟩ h
    have bit := testBit_sourceMask p k
    rw [h, Nat.zero_testBit, hk] at bit
    exact Bool.false_ne_true bit

theorem blockedWatches_ne_zero (s : State) : blockedWatches s ≠ 0 ↔ ∃ k, rearmBlocked (s.watch k) = true :=
  sourceMask_ne_zero fun k => rearmBlocked (s.watch k)

theorem getLsbD_sourceMask (p : Fin 8 → Bool) (k : Fin 8) : (toByte (sourceMask p)).getLsbD k.val = p k := by
  rw [toByte, BitVec.getLsbD_ofNat, testBit_sourceMask, decide_eq_true k.isLt, Bool.true_and]

theorem ofNat_ne_all (k : Fin 8) : BitVec.ofNat 8 k.val ≠ 0xFF := by
  intro h
  have := congrArg BitVec.toNat h
  simp at this
  omega

theorem doClearWatch_one (h : ReqCtx) (k : Fin 8) (s : State) : doClearWatch h (BitVec.ofNat 8 k.val) s =
    answer h .ok [if (s.watch k).isSome then 1 else 0] (clearWatch k s) := by
  rw [doClearWatch, watchesOf, if_neg (ofNat_ne_all k), watchOf_ofNat, Option.map_some]
  cases hk : s.watch k <;> simp [hk, forEach, toByte]

theorem doClearWatch_all (h : ReqCtx) (s : State) : doClearWatch h 0xFF s =
    answer h .ok [BitVec.ofNat 8 (all8.countP fun k => (s.watch k).isSome)] (forEach all8 clearWatch s) := by
  rw [doClearWatch, watchesOf, if_pos rfl, List.countP_eq_length_filter]
  rfl

theorem watchesOf_none {i : Byte} (high : 7 < i.toNat) (other : i ≠ 0xFF) : watchesOf i = none := by
  rw [watchesOf, if_neg other, watchOf_none high, Option.map_none]

theorem doRearm_one (h : ReqCtx) (k : Fin 8) (s : State) : doRearm h (BitVec.ofNat 8 k.val) s = rearmOne h k s := by
  rw [doRearm, if_neg (ofNat_ne_all k), watchOf_ofNat]

theorem doRearm_all (h : ReqCtx) (s : State) : doRearm h 0xFF s = rearmEvery h s := if_pos rfl

theorem doRearm_none {i : Byte} (h : ReqCtx) (high : 7 < i.toNat) (other : i ≠ 0xFF) :
    doRearm h i s = answer h .badArg [] s := by
  rw [doRearm, if_neg other, watchOf_none high]

/-! ## A channel let go of (R74) -/

theorem holderBit_self (k : Fin 8) : holderBit k &&& ~~~holderBit k = 0 := BitVec.and_not_self _

theorem releaseChannel_goes {c : Fin 4} (held : (s.chan c).tripHolders = holderBit k) (encoded : (s.chan c).kind = .encoded)
    (free : (s.chan c).haltFlag = false) (running : s.fault.halted = false) :
    releaseChannel k c s = s.setChan c (enterSetpoint .hold { s.chan c with tripHolders := 0 }) := by
  have clear : (s.chan c).tripHolders &&& ~~~holderBit k = 0 := by rw [held, holderBit_self]
  simp only [releaseChannel, clear]
  exact if_pos ⟨by rw [held]; exact holderBit_ne_zero k, trivial, encoded, free, running⟩

theorem releaseChannel_stays {c : Fin 4} {left : BitVec 8} (hl : (s.chan c).tripHolders &&& ~~~holderBit k = left)
    (stays : left ≠ 0 ∨ (s.chan c).kind = .plain ∨ (s.chan c).haltFlag = true ∨ s.fault.halted = true) :
    releaseChannel k c s = s.setChan c { s.chan c with tripHolders := left } := by
  simp only [releaseChannel, hl]
  refine if_neg ?_
  rintro ⟨-, none, encoded, free, running⟩
  rcases stays with h | h | h | h
  · exact h none
  · rw [encoded] at h
    contradiction
  · rw [free] at h
    contradiction
  · rw [running] at h
    contradiction

theorem enterHold_stopped {x : Channel} (stopped : x.mode = .coast ∨ x.mode = .brake) : enterSetpoint .hold x = { x with
    mode := .hold x.position, tc := x.position, tf := 0, v := max (-(x.params.vmax : Int)) (min x.params.vmax x.speed),
    settle := 0, moveDone := false, lapse := false } := by
  have seeds : seedProfile x = { x with tc := x.position, tf := 0, v := clampAbs x.params.vmax x.speed } :=
    if_neg (by rcases stopped with h | h <;> rw [h] <;> decide)
  rw [enterSetpoint, seeds, clampAbs_eq]
  rfl

/-- Settles O49: SET_WATCH by its arguments, then one watch, all watches, and one channel. -/
theorem watchRequests : Obligations.WatchRequests := by
  unfold Obligations.WatchRequests
  intro released clear rearm acted blocked
  have releases (k : Fin 8) (w : Watch) (s : State) : releaseHolds k w.action s = released k w s := by
    cases ha : w.action with
    | tripBrake set => simp only [released, ha]; exact forEach_channelsOf ..
    | tripCoast set => simp only [released, ha]; exact forEach_channelsOf ..
    | fault => simp only [released, ha]; exact releaseHolds_fault ..
    | _ => simp only [released, ha]; rfl
  have clears (k : Fin 8) (s : State) : clearWatch k s = clear k s := by
    cases hk : s.watch k with
    | none => simp only [clear, hk, clearWatch_none hk]
    | some w => simp only [clear, hk, clearWatch_some hk, releases]
  have rearms (k : Fin 8) (s : State) : rearmIf k s = rearm k s := by
    cases hk : s.watch k with
    | none => simp only [rearm, hk, rearmIf_none hk]
    | some w => simp only [rearm, hk, rearmIf_takes hk, releases]
  have blocks (o : Option Watch) : rearmBlocked o = blocked o := by
    cases o with
    | none => rfl
    | some w => simp only [rearmBlocked, blocked, acted_iff]
  have acts (o : Option Watch) (free : blocked o = false) : rearmable o = acted o := by
    rw [← blocks] at free
    cases o with
    | none => rfl
    | some w =>
      simp only [rearmBlocked, rearmable, acted, acted_iff] at free ⊢
      cases hl : w.lastEval <;> simp_all
  clear_value released clear rearm acted blocked
  refine ⟨fun h k w s => ?_, fun h k s => ?_, fun h s => ?_, fun k c s => ?_⟩
  · intro i names tests acts
    have hnames (x : Subject) : names x ↔ NamesSubject w s x := by cases x <;> rfl
    have htests (c : Condition) : tests c ↔ NamesCondition w c := by cases c <;> rfl
    have hacts (a : WatchAction) : acts a ↔ NamesAction w a := by cases a <;> rfl
    clear_value names tests acts
    simp only [hnames, htests, hacts]
    refine ⟨fun bad => congrArg _ (doSetWatch_refused h (.inr (watchRecord_none bad))),
      fun b high => congrArg _ (doSetWatch_refused h (.inl (watchOf_none high))), fun x c a hx hc ha range => ?_⟩
    have runs : exec i s = .next (doSetWatch h (BitVec.ofNat 8 k.val) w s) := rfl
    rw [doSetWatch_record h (watchRecord_some hx hc ha range)] at runs
    refine ⟨fun tripped => runs.trans (congrArg _ (if_pos ((isTripped_eq_true _).2 tripped))), fun untripped => ?_⟩
    have open_watch : ¬isTripped (s.watch k) = true := fun trips => by
      obtain ⟨y, hy, tripped⟩ := (isTripped_eq_true _).1 trips
      exact untripped y hy tripped
    refine runs.trans (congrArg _ ((if_neg open_watch).trans ?_))
    have code : watchCode (s.watch k) = match s.watch k with | none => 0 | some y => if y.state = .armed then 1 else 2 := by
      cases hk : s.watch k with
      | none => rfl
      | some y =>
        have := untripped y (by rw [hk]; exact List.mem_singleton.2 rfl)
        cases hs : y.state <;> simp_all [watchCode]
    rw [code]
    rfl
  · refine ⟨?_, fun held => ?_, fun free => ?_, fun i high other => ⟨?_, congrArg _ (doRearm_none h high other)⟩⟩
    · exact congrArg _ ((doClearWatch_one h k s).trans (by rw [clears]))
    · exact congrArg _ ((doRearm_one h k s).trans (if_pos ((blocks _).trans held)))
    · have passes : ¬rearmBlocked (s.watch k) = true := by rw [blocks, free]; exact Bool.false_ne_true
      exact congrArg _ ((doRearm_one h k s).trans ((if_neg passes).trans (by rw [acts _ free, rearms])))
    · show Host.Outcome.next (doClearWatch h i s) = _
      rw [doClearWatch, watchesOf_none high other]
  · intro all
    have folds {f : Fin 8 → State → State} {g : Fin 8 → State → State} (hfg : ∀ k t, f k t = g k t) :
        forEach all8 f s = all.foldl (fun t k => g k t) s := by
      rw [show f = g from funext fun k => funext (hfg k)]
      rfl
    have rearming : exec (.rearm h 0xFF) s = .next (rearmEvery h s)  := by
      show Host.Outcome.next (doRearm h 0xFF s) = _
      rw [doRearm_all]
    refine ⟨?_, fun held => ?_, fun free => ?_⟩
    · show Host.Outcome.next (doClearWatch h 0xFF s) = _
      rw [doClearWatch_all, folds clears, show all8 = all from rfl]
    · have held : blockedWatches s ≠ 0 :=
        (blockedWatches_ne_zero s).2 (held.imp fun k hk => (blocks _).trans hk)
      exact ⟨toByte (blockedWatches s), rearming.trans (congrArg _ (if_pos held)),
        fun k => (getLsbD_sourceMask (fun k => rearmBlocked (s.watch k)) k).trans (blocks _)⟩
    · have passes : ¬blockedWatches s ≠ 0 := fun held => by
        obtain ⟨k, hk⟩ := (blockedWatches_ne_zero s).1 held
        rw [blocks, free k] at hk
        exact Bool.false_ne_true hk
      have count : rearmableCount s = all.countP fun k => acted (s.watch k) := by
        rw [List.countP_eq_length_filter, rearmableCount]
        exact congrArg (fun p => (List.filter p all8).length) (funext fun k => acts _ (free k))
      refine rearming.trans (congrArg _ ((if_neg passes).trans ?_))
      rw [count, rearmAll, folds rearms]
      rfl
  · intro ch bit
    refine ⟨fun held encoded free running stopped => ?_, fun held stays => ?_, fun others => ?_⟩
    · exact (releaseChannel_goes held encoded free running).trans
        (congrArg (s.setChan c) (enterHold_stopped (x := { ch with tripHolders := 0 }) stopped))
    · exact releaseChannel_stays (by rw [held]; exact holderBit_self k) (.inr stays)
    · exact releaseChannel_stays rfl (.inl others)

end Sys2Proof.Machine
end

section
/-! PROOFS. The sound unit: the player by the sample clock, and the requests (R126 to R141). -/

namespace Sys2Proof.Machine

variable {s : State}

/-! ## Starting and stopping (R130 to R134) -/

/-- The sound record once the player has taken a note (R130). -/
def noteTaken (n : Note) (rest : List Note) (x : Sound) : Sound :=
  { x with queue := rest, player := .playing, current := some n, count := 16 * n.duration, phase := 0 }

theorem takeNote_eq (n : Note) (rest : List Note) (s : State) : takeNote n rest s =
    if rest.length ≤ s.sound.mark ∧ s.sound.arm = true then
      raiseEvent .soundLow 0 (BitVec.ofNat 32 rest.length) (s.withSound { noteTaken n rest s.sound with arm := false })
    else s.withSound (noteTaken n rest s.sound) := by
  rw [← toWord_natCast]
  rfl

theorem takeNote_plain {rest : List Note} (h : s.sound.mark < rest.length ∨ s.sound.arm = false) (n : Note) :
    takeNote n rest s = s.withSound (noteTaken n rest s.sound) := by
  rw [takeNote_eq, if_neg]
  rintro ⟨low, armed⟩
  rcases h with h | h
  · omega
  · rw [armed] at h
    contradiction

theorem takeNote_low {rest : List Note} (low : rest.length ≤ s.sound.mark) (armed : s.sound.arm = true) (n : Note) :
    takeNote n rest s = raiseEvent .soundLow 0 (BitVec.ofNat 32 rest.length)
      (s.withSound { noteTaken n rest s.sound with arm := false }) := by
  rw [takeNote_eq, if_pos ⟨low, armed⟩]

theorem startAction_busy (h : s.sound.player ≠ .stopped) : startAction s = s := by
  unfold startAction
  cases hp : s.sound.player with
  | stopped => exact absurd hp h
  | _ => rfl

theorem startAction_empty (h : s.sound.player = .stopped) (hq : s.sound.queue = []) :
    startAction s = raiseEvent .soundDone 0 0 s := by
  rw [startAction, h, hq]
  show raiseEvent .soundDone 0 (toWord (s.sound.queue.length : Int)) s = _
  rw [hq]
  rfl

theorem startAction_takes {n : Note} {rest : List Note} (h : s.sound.player = .stopped) (hq : s.sound.queue = n :: rest) :
    startAction s = takeNote n rest s := by
  rw [startAction, h, hq]

theorem gapEnd_stops (h : s.sound.stopAtEnd = true ∨ s.sound.queue = []) : gapEnd s =
    raiseEvent .soundDone 0 (BitVec.ofNat 32 s.sound.queue.length) (s.withSound (stopPlayer s.sound)) := by
  have done : gapEnd s = soundDone (s.withSound (stopPlayer s.sound)) := by
    unfold gapEnd
    cases stops : s.sound.stopAtEnd with
    | true => exact if_pos rfl
    | false =>
      rw [stops] at h
      rw [if_neg Bool.false_ne_true, h.resolve_left Bool.false_ne_true]
  rw [done, ← toWord_natCast]
  rfl

theorem gapEnd_takes {n : Note} {rest : List Note} (goes : s.sound.stopAtEnd = false) (hq : s.sound.queue = n :: rest) :
    gapEnd s = takeNote n rest s := by
  rw [gapEnd, goes, if_neg Bool.false_ne_true, hq]

/-! ## The sample clock (R131, R135, R136) -/

theorem exec_sampleClock (running : s.inReset = false) : exec .sampleClock s = .next (sampleStep s) :=
  congrArg _ (if_neg (by rw [running]; exact Bool.false_ne_true))

theorem sampleStep_stopped (h : s.sound.player = .stopped) :
    sampleStep s = s.withSound { s.sound with nextCompare := 250 } := by
  unfold sampleStep
  rw [h]

theorem sampleStep_gapping (h : s.sound.player = .gapping) : sampleStep s = gapSample s := by
  unfold sampleStep
  rw [h]

theorem sampleStep_playing {n : Note} (h : s.sound.player = .playing) (hn : s.sound.current = some n) :
    sampleStep s = playSample n s := by
  rw [sampleStep, h, hn]

theorem gapSample_continues (h : 2 ≤ s.sound.count) :
    gapSample s = s.withSound { s.sound with nextCompare := 250, count := s.sound.count - 1 } :=
  if_neg (by omega)

theorem gapSample_ends (h : s.sound.count = 1) :
    gapSample s = gapEnd (s.withSound { s.sound with nextCompare := 250, count := 0 }) := by
  rw [gapSample, h]
  rfl

/-- The compare value of a sample (R136). -/
def compareFor (n : Note) (s : State) : Nat :=
  (250 + noteSample n s.sound.master (s.supply.state == .sag) s.sound.phase.toNat).toNat

/-- The sound record once a sample of a note has been formed (R131, R135). -/
def sampled (n : Note) (s : State) : Sound :=
  { s.sound with
    nextCompare := compareFor n s, phase := s.sound.phase + BitVec.ofNat 24 (phaseIncrement n.frequency),
    count := s.sound.count - 1 }

theorem phaseIncrement_eq (f : Nat) : phaseIncrement f = (2 * (f * 16777216) + 16000) / 32000 := by
  unfold phaseIncrement
  omega

theorem playSample_continues (h : 2 ≤ s.sound.count) (n : Note) : playSample n s = s.withSound (sampled n s) :=
  if_neg (by omega)

theorem playSample_gap {n : Note} (h : s.sound.count = 1) (hg : 1 ≤ n.gap) :
    playSample n s = s.withSound { sampled n s with player := .gapping, count := 16 * n.gap } :=
  (if_pos (by omega)).trans (if_neg (by omega))

theorem playSample_ends {n : Note} (h : s.sound.count = 1) (hg : n.gap = 0) :
    playSample n s = gapEnd (s.withSound { sampled n s with player := .gapping }) :=
  (if_pos (by omega)).trans (if_pos (by omega))

/-- The amplitude of a note in a state (R136). -/
def amplitudeOf (n : Note) (s : State) : Nat := amplitude n.volume s.sound.master (s.supply.state == .sag)

theorem compareFor_rest {n : Note} (h : n.frequency = 0) : compareFor n s = 250 := by
  rw [compareFor, noteSample, if_pos h]
  rfl

theorem compareFor_wave {n : Note} (h : n.frequency ≠ 0) :
    compareFor n s = (250 + waveSample n.waveform (amplitudeOf n s) s.sound.phase.toNat).toNat := by
  rw [compareFor, noteSample, if_neg h]
  rfl

theorem waveSample_square (amp p : Nat) :
    waveSample .square amp p = if p < 8388608 then (amp : Int) else -(amp : Int) := rfl

theorem waveSample_triangle (amp p : Nat) : waveSample .triangle amp p =
    if p < 8388608 then -(amp : Int) + ((2 * amp * p / 8388608 : Nat) : Int)
    else (amp : Int) - ((2 * amp * (p - 8388608) / 8388608 : Nat) : Int) := rfl

theorem compareFor_square {n : Note} (small : amplitudeOf n s ≤ 240) (h : n.frequency ≠ 0)
    (hw : n.waveform = .square) : compareFor n s =
    if s.sound.phase.toNat < 8388608 then 250 + amplitudeOf n s else 250 - amplitudeOf n s := by
  rw [compareFor_wave h, hw, waveSample_square]
  split <;> omega

theorem compareFor_triangle {n : Note} (h : n.frequency ≠ 0) (hw : n.waveform = .triangle) (small : amplitudeOf n s ≤ 240) :
    compareFor n s = if s.sound.phase.toNat < 8388608 then
        250 - amplitudeOf n s + 2 * amplitudeOf n s * s.sound.phase.toNat / 8388608
      else 250 + amplitudeOf n s - 2 * amplitudeOf n s * (s.sound.phase.toNat - 8388608) / 8388608 := by
  rw [compareFor_wave h, hw, waveSample_triangle]
  split
  · omega
  · have ramp := ramp_le (amplitudeOf n s) (s.sound.phase.toNat - 8388608) (by omega)
    omega

theorem compareFor_bounds {n : Note} (small : amplitudeOf n s ≤ 240) :
    250 - amplitudeOf n s ≤ compareFor n s ∧ compareFor n s ≤ 250 + amplitudeOf n s := by
  by_cases h : n.frequency = 0
  · rw [compareFor_rest h]
    omega
  · have bounds := waveSample_bounds n.waveform (amplitudeOf n s) s.sound.phase.isLt
    rw [compareFor_wave h]
    omega

theorem exec_sampleClock_resetting (h : s.inReset = true) : exec .sampleClock s = .next s := congrArg _ (if_pos h)

/-- Settles O50: the three states of the player, the end of a gap, and the speaker. -/
theorem playerFollowsSampleClock : Obligations.PlayerFollowsSampleClock := by
  unfold Obligations.PlayerFollowsSampleClock
  refine ⟨fun s running => ?_, fun s running gapping last => ?_, fun s => ⟨fun resetting =>
    ⟨congrArg _ (if_pos resetting), exec_sampleClock_resetting resetting, speaker_in_reset resetting⟩,
    fun running => ⟨if_neg (by rw [running]; exact Bool.false_ne_true),
      congrArg _ (if_neg (by rw [running]; exact Bool.false_ne_true))⟩⟩⟩
  · rw [exec_sampleClock running]
    intro x
    refine ⟨fun stopped => congrArg _ (sampleStep_stopped stopped),
      fun gapping many => congrArg _ ((sampleStep_gapping gapping).trans (gapSample_continues many)),
      fun n playing current safe master => ?_⟩
    intro amp played
    have amplitude_of : amplitudeOf n s = amp := if_congr beq_iff_eq rfl rfl
    have small : amplitudeOf n s ≤ 240 := amplitude_le safe.2.2.2.1 master _
    have plays : sampleStep s = playSample n s := sampleStep_playing playing current
    have record : sampled n s = played (compareFor n s) := by rw [sampled, phaseIncrement_eq]
    rw [plays]
    refine ⟨compareFor n s, ?_, ?_, compareFor_rest, ?_, ?_, fun many => ?_, fun last gap => ?_,
      fun last none_left stops => ?_, fun m rest last none_left goes hq plain => ?_⟩
    · rw [← amplitude_of]
      exact (compareFor_bounds small).1
    · rw [← amplitude_of]
      exact (compareFor_bounds small).2
    · rw [← amplitude_of]
      exact compareFor_square small
    · rw [← amplitude_of]
      exact fun h hw => compareFor_triangle h hw small
    · rw [playSample_continues many, record]
    · rw [playSample_gap last gap, record]
    · rw [playSample_ends last none_left, record]
      exact congrArg _ (gapEnd_stops (s := s.withSound { played (compareFor n s) with player := .gapping }) stops)
    · rw [playSample_ends last none_left, record]
      have ends := gapEnd_takes (s := s.withSound { played (compareFor n s) with player := .gapping }) goes hq
      exact congrArg _ (ends.trans (takeNote_plain (s := s.withSound { played (compareFor n s) with player := .gapping })
        plain m))
  · intro x stopped
    have ends : exec .sampleClock s = .next (gapEnd (s.withSound x)) := by
      rw [exec_sampleClock running, sampleStep_gapping gapping, gapSample_ends last]
    rw [ends]
    refine ⟨fun stops => congrArg _ (gapEnd_stops stops), fun n rest goes hq => ⟨fun plain => ?_, fun low armed => ?_⟩⟩
    · exact congrArg _ ((gapEnd_takes (s := s.withSound x) goes hq).trans (takeNote_plain (s := s.withSound x) plain n))
    · exact congrArg _ ((gapEnd_takes (s := s.withSound x) goes hq).trans (takeNote_low (s := s.withSound x) low armed n))

/-! ## Requests for the player (R130, R132, R133, R140) -/

section
variable {h : ReqCtx} {keep : Bool}

theorem doStartSound_now (running : s.fault.halted = false) : doStartSound h 0 keep s =
    answer h .ok [(startAction s).sound.player.code, toByte (startAction s).sound.queue.length] (startAction s) := by
  rw [doStartSound, if_neg (by decide), if_pos rfl, running, if_neg Bool.false_ne_true]

theorem doStartSound_halted (halted : s.fault.halted = true) : doStartSound h 0 keep s = answer h .faulted [] s := by
  rw [doStartSound, if_neg (by decide), if_pos rfl, halted, if_pos rfl]

theorem doStopSound_now {b : Byte} {a : StopArg} (hb : stopArgOf b = some a) (running : s.fault.halted = false) :
    doStopSound h b 0 keep s = answer h .ok [s.sound.player.code] (s.withSound (stopAction a s.sound)) := by
  rw [doStopSound, hb]
  dsimp only
  rw [if_neg (by decide), if_pos rfl, running, if_neg Bool.false_ne_true]

theorem doStopSound_halted {b : Byte} {a : StopArg} (hb : stopArgOf b = some a) (halted : s.fault.halted = true) :
    doStopSound h b 0 keep s = answer h .faulted [] s := by
  rw [doStopSound, hb]
  dsimp only
  rw [if_neg (by decide), if_pos rfl, halted, if_pos rfl]

/-- START_SOUND of a STOPPED player with a note takes it, and tells the low water with the arm set (R130, R134). -/
theorem doStartSound_takes (running : s.fault.halted = false) {n : Note} {rest : List Note}
    (stopped : s.sound.player = .stopped) (hq : s.sound.queue = n :: rest) : doStartSound h 0 keep s =
      answer h .ok [1, BitVec.ofNat 8 rest.length] (takeNote n rest s) := by
  rw [doStartSound_now running, startAction_takes stopped hq, takeNote_eq]
  split
  · rw [raiseEvent_sound]
    rfl
  · rfl

end

theorem stopAction_atEnd_eq (x : Sound) :
    stopAction .atEnd x = if x.player = .stopped then x else { x with stopAtEnd := true } := by
  unfold stopAction
  cases hp : x.player <;> rfl

/-! ## QUEUE_NOTES (R127, R128) -/

/-- A note brought within its ranges, its waveform of a known kind (R127). -/
def noteOf (n : RawNote) : Note :=
  { frequency := if n.frequency = 0 then 0 else max 40 (min 8000 n.frequency.toNat),
    duration := max 1 (min 10000 n.duration.toNat), volume := min 15 n.volume.toNat,
    waveform := if n.waveform = 0 then .square else .triangle, gap := n.gap.toNat }

theorem waveformOf_known {b : Byte} (h : b.toNat ≤ 1) : waveformOf b = some (if b = 0 then .square else .triangle) := by
  have zero : b = 0 ↔ b.toNat = 0 := by bv_omega
  unfold waveformOf
  split
  · rw [if_pos (zero.2 ‹_›)]
  · rw [if_neg]
    rw [zero]
    omega
  · simp only [imp_false] at *
    omega

theorem waveformOf_unknown {b : Byte} (h : 1 < b.toNat) : waveformOf b = none := by
  unfold waveformOf
  split
  · omega
  · omega
  · rfl

theorem clampNote_known {n : RawNote} (h : n.waveform.toNat ≤ 1) : clampNote n = some (noteOf n) := by
  have zero : n.frequency.toNat = 0 ↔ n.frequency = 0 := by bv_omega
  rw [clampNote, waveformOf_known h, Option.map_some, noteOf, clampN_eq (by decide), clampN_eq (by decide),
    clampN_eq (by decide)]
  simp only [zero, Nat.zero_max]

theorem clampNotes_known {ns : List RawNote} (h : ∀ n ∈ ns, n.waveform.toNat ≤ 1) : clampNotes ns = some (ns.map noteOf) := by
  have all_known : (ns.all fun n => (waveformOf n.waveform).isSome) = true :=
    List.all_eq_true.2 fun n hn => by rw [waveformOf_known (h n hn), Option.isSome_some]
  rw [clampNotes, if_pos all_known, ← List.filterMap_eq_map]
  exact congrArg some (List.filterMap_congr fun n hn => clampNote_known (h n hn))

theorem clampNotes_unknown {ns : List RawNote} (h : ∃ n ∈ ns, 1 < n.waveform.toNat) : clampNotes ns = none := by
  obtain ⟨n, hn, unknown⟩ := h
  refine if_neg fun known => ?_
  have := List.all_eq_true.1 known n hn
  rw [waveformOf_unknown unknown] at this
  contradiction

/-- A note that is brought within its ranges is changed (R127). -/
def broughtIn (n : RawNote) : Bool := decide ((n.frequency ≠ 0 ∧ (n.frequency.toNat < 40 ∨ 8000 < n.frequency.toNat)) ∨
  n.duration = 0 ∨ 10000 < n.duration.toNat ∨ 15 < n.volume.toNat)

theorem clampN_ne {lo hi x : Nat} (h : lo ≤ hi) : clampN lo hi x ≠ x ↔ x < lo ∨ hi < x := by
  rw [clampN_eq h]
  omega

theorem noteLimited_eq (n : RawNote) : noteLimited n = broughtIn n := by
  have frequency : n.frequency = 0 ↔ n.frequency.toNat = 0 := by bv_omega
  have duration : n.duration = 0 ↔ n.duration.toNat = 0 := by bv_omega
  rw [Bool.eq_iff_iff]
  simp only [noteLimited, broughtIn, Bool.or_eq_true, Bool.and_eq_true, bne_iff_ne, decide_eq_true_eq, ne_eq, frequency,
    duration]
  simp only [← ne_eq, clampN_ne (show 40 ≤ 8000 by decide), clampN_ne (show 1 ≤ 10000 by decide),
    clampN_ne (show 0 ≤ 15 by decide)]
  omega

section
variable {h : ReqCtx} {st : RawStart} {raw : List RawNote}

theorem doQueueNotes_halted (halted : s.fault.halted = true) : doQueueNotes h st raw s = answer h .faulted [] s :=
  if_pos halted

theorem doQueueNotes_badArg (running : s.fault.halted = false) (bad : startFormOf st = none ∨ clampNotes raw = none) :
    doQueueNotes h st raw s = answer h .badArg [] s := by
  refine (if_neg (by rw [running]; exact Bool.false_ne_true)).trans ?_
  split
  · rename_i form notes
    rcases bad with none | none
    · rw [none] at form
      contradiction
    · rw [none] at notes
      contradiction
  · rfl

theorem doQueueNotes_full (running : s.fault.halted = false) {f : StartForm} {ns : List Note} (form : startFormOf st = some f)
    (notes : clampNotes raw = some ns) (full : startPlace f s.cue.table = none) :
    doQueueNotes h st raw s = answer h .tableFull [] s := by
  refine (if_neg (by rw [running]; exact Bool.false_ne_true)).trans ?_
  rw [form, notes]
  dsimp only
  rw [full]

/-- The sound record once notes have been queued (R127, R134). -/
def queued (ns : List Note) (x : Sound) : Sound :=
  { x with queue := x.queue ++ ns.take (32 - x.queue.length),
           arm := x.arm || decide (x.mark < (x.queue ++ ns.take (32 - x.queue.length)).length) }

theorem doQueueNotes_queues (running : s.fault.halted = false) {f : StartForm} {ns : List Note}
    (form : startFormOf st = some f) (notes : clampNotes raw = some ns) {t : List CueEntry} {staging : List Byte}
    (place : startPlace f s.cue.table = some (t, staging)) : doQueueNotes h st raw s =
      let taken := ns.take (32 - s.sound.queue.length)
      answer h (okOr (raw.any noteLimited || decide (taken.length < ns.length)))
        ([toByte taken.length, toByte (s.sound.queue ++ taken).length] ++ staging)
        (startAfterQueue f ((s.withSound (queued ns s.sound)).withTable t)) := by
  refine (if_neg (by rw [running]; exact Bool.false_ne_true)).trans ?_
  rw [form, notes]
  dsimp only
  rw [place]
  rfl

end

theorem startFormOf_cue {keep : Bool} {cue : BitVec 5} (h : ¬(cue.toNat = 0 ∨ 15 < cue.toNat)) :
    startFormOf { form := 2, keep := keep, cue := cue } = some (.onCue (cue.setWidth 8) keep) := by
  have named : 1 ≤ cue.toNat ∧ cue.toNat ≤ 15 := by omega
  exact if_pos named

theorem startFormOf_noCue {keep : Bool} {cue : BitVec 5} (h : cue.toNat = 0 ∨ 15 < cue.toNat) :
    startFormOf { form := 2, keep := keep, cue := cue } = none := by
  have unnamed : ¬(1 ≤ cue.toNat ∧ cue.toNat ≤ 15) := by omega
  exact if_neg unnamed

theorem startPlace_cue (cue : BitVec 5) (keep : Bool) (t : List CueEntry) : startPlace (.onCue (cue.setWidth 8) keep) t =
    (placeEntry { cue := cue.toNat, action := .startSound, keep := keep } t).map
      fun r => (r.1, [toByte r.2, toByte r.1.length]) := by
  have width : (cue.setWidth 8).toNat = cue.toNat := by
    rw [BitVec.toNat_setWidth]
    omega
  rw [startPlace, width]
  cases placeEntry { cue := cue.toNat, action := .startSound, keep := keep } t <;> rfl

/-- Settles O51: the player's requests, running and halted, the notes queued, and the volume. -/
theorem soundRequestsAct : Obligations.SoundRequestsAct := by
  unfold Obligations.SoundRequestsAct
  refine ⟨fun h keep s running => ?_, fun h keep st ns s halted => ?_, fun h keep cue ns s running => ?_, fun s => ?_,
    fun h master mark s => ?_⟩
  · intro x silent
    refine ⟨fun stopped hq => ?_, fun n rest stopped hq high => ?_, fun n rest stopped hq low => ?_, fun busy => ?_, ?_, ?_, ?_⟩
    · refine congrArg _ ((doStartSound_now running).trans ?_)
      rw [startAction_empty stopped hq, raiseEvent_sound, show s.sound.player = .stopped from stopped,
        show s.sound.queue = [] from hq]
      rfl
    · exact congrArg _ ((doStartSound_takes running stopped hq).trans (congrArg _ (takeNote_plain (.inl high) n)))
    · refine congrArg _ ((doStartSound_takes running stopped hq).trans (congrArg _ ?_))
      cases armed : x.arm with
      | true => exact takeNote_low low armed n
      | false =>
        have kept : { noteTaken n rest x with arm := false } = noteTaken n rest x := by
          rw [noteTaken, ← armed]
        exact (takeNote_plain (.inr armed) n).trans (congrArg s.withSound kept.symm)
    · refine congrArg _ ((doStartSound_now running).trans ?_)
      rw [startAction_busy busy]
      rfl
    · refine congrArg _ ((doStopSound_now rfl running).trans ?_)
      exact congrArg (fun y => answer h .ok [x.player.code] (s.withSound y)) (stopNow_eq x)
    · refine congrArg _ ((doStopSound_now rfl running).trans ?_)
      exact congrArg (fun y => answer h .ok [x.player.code] (s.withSound y)) (stopAction_atEnd_eq x)
    · refine congrArg _ ((if_neg (by rw [running]; exact Bool.false_ne_true)).trans ?_)
      exact congrArg (fun y : Sound => answer h .ok _ (s.withSound { y with queue := [] })) (stopNow_eq x)
  · exact ⟨congrArg _ (doQueueNotes_halted halted), congrArg _ (doStartSound_halted halted),
      congrArg _ (doStopSound_halted rfl halted), congrArg _ (doStopSound_halted rfl halted), congrArg _ (if_pos halted)⟩
  · intro queue noCue same
    have badArg {form : BitVec 2} (bad : startFormOf { form := form, keep := keep, cue := cue } = none ∨ clampNotes ns = none) :
        exec (queue form) s = .next (answer h .badArg [] s) := congrArg _ (doQueueNotes_badArg running bad)
    have slot (y : CueEntry) (hy : ¬same y) : sameSlot { cue := cue.toNat, action := .startSound, keep := keep } y = false :=
      sameSlot_eq_false hy
    refine ⟨badArg (.inl rfl), fun none => badArg (.inl (startFormOf_noCue none)),
      fun form unknown => badArg (.inr (clampNotes_unknown unknown)), fun known cued full none_same => ?_, fun known room => ?_⟩
    · refine congrArg _ (doQueueNotes_full running (startFormOf_cue cued) (clampNotes_known known) ?_)
      rw [startPlace_cue, placeEntry_full (fun y hy => slot y (none_same y hy)) full, Option.map_none]
    · intro note brought taken q t data code e table
      have limits : okOr (ns.any noteLimited || decide (taken.length < (ns.map noteOf).length)) = code := by
        rw [okOr, List.length_map, show noteLimited = broughtIn from funext noteLimited_eq]
        exact if_congr ((Bool.or_eq_true ..).to_iff.trans (or_congr_right decide_eq_true_iff)) rfl rfl
      have queues {form : BitVec 2} {f : StartForm} {table : List CueEntry} {staging : List Byte}
          (hf : startFormOf { form := form, keep := keep, cue := cue } = some f)
          (place : startPlace f s.cue.table = some (table, staging)) :
          exec (queue form) s = .next (answer h code (data ++ staging) (startAfterQueue f (t.withTable table))) := by
        have queued := doQueueNotes_queues (h := h) running hf (clampNotes_known known) place
        refine congrArg _ (queued.trans ?_)
        rw [← limits]
        rfl
      refine ⟨?_, ?_, fun cued none_same free => ?_, fun pre post y cued split hy hpre => ?_⟩
      · exact queues (f := .later) (table := table) (staging := []) rfl rfl
      · exact queues (f := .now) (table := table) (staging := []) rfl rfl
      · refine queues (startFormOf_cue cued) ?_
        rw [startPlace_cue, placeEntry_new (fun y hy => slot y (none_same y hy)) free, Option.map_some, List.length_append]
        rfl
      · refine queues (startFormOf_cue cued) ?_
        have placed := placeEntry_found (e := e) (post := post) ((sameSlot_eq_true e y).2 hy) fun z hz => slot z (hpre z hz)
        rw [startPlace_cue, show s.cue.table = pre ++ y :: post from split, placed, Option.map_some, show table = _ from split,
          List.length_append, List.length_append]
        rfl
  · intro x
    exact ⟨startAction_busy, startAction_empty, fun n rest stopped hq => (startAction_takes stopped hq).trans (takeNote_eq ..)⟩
  · intro m k
    have master_brought : clampN 0 15 master.toNat = m := (clampN_eq (by decide) _).trans (Nat.zero_max _)
    have mark_brought : clampN 0 31 mark.toNat = k := (clampN_eq (by decide) _).trans (Nat.zero_max _)
    have code : okOr (m != master.toNat || k != mark.toNat) =
        if master.toNat ≤ 15 ∧ mark.toNat ≤ 31 then .ok else .limited := by
      by_cases within : master.toNat ≤ 15 ∧ mark.toNat ≤ 31
      · rw [if_pos within, show m = master.toNat from Nat.min_eq_right within.1,
          show k = mark.toNat from Nat.min_eq_right within.2]
        simp [okOr]
      · have brought : (m != master.toNat || k != mark.toNat) = true := by
          rw [Bool.or_eq_true, bne_iff_ne, bne_iff_ne]
          omega
        rw [if_neg within, brought]
        rfl
    show Host.Outcome.next (doSetVolume h master mark s) = _
    rw [doSetVolume, master_brought, mark_brought, ← code]
    rfl

end Sys2Proof.Machine
end

section
/-! PROOFS. The supply monitor and the fault unit (R142 to R154). -/

namespace Sys2Proof.Machine

variable {s : State} {k : Fin 8}

/-! ## Conditions told (R147) -/

theorem conditionBegin_grace (inactive : (s.source k).state = .inactive) (grace : 0 < (s.source k).grace)
    (reaction : (s.source k).reaction ≠ .none) : conditionBegin k s =
      raiseEvent .faultGrace (toByte k.val) (BitVec.ofNat 32 (s.source k).grace)
        (s.setSource k { s.source k with condition := true, state := .grace, timer := some 0 }) := by
  simp only [conditionBegin, inactive, grace, if_true, setSource_setSource, sourceEvent, source_setSource_self, reaction,
    if_false, toWord_natCast]

theorem conditionBegin_active (active : (s.source k).state ≠ .inactive) :
    conditionBegin k s = s.setSource k { s.source k with condition := true } := by
  unfold conditionBegin
  cases hs : (s.source k).state with
  | inactive => exact absurd hs active
  | _ => simp only [hs]

theorem conditionEnd_eq (k : Fin 8) (s : State) : conditionEnd k s = if (s.source k).state = .grace then
      sourceEvent .faultEased k 0 (s.setSource k { s.source k with condition := false, state := .inactive, timer := none })
    else s.setSource k { s.source k with condition := false } := by
  unfold conditionEnd
  cases hs : (s.source k).state <;> simp only [hs, reduceCtorEq, if_true, if_false]

theorem sourceEvent_raised (e : EventKind) (a : Word) (reaction : (s.source k).reaction ≠ .none) :
    sourceEvent e k a s = raiseEvent e (toByte k.val) a s := if_neg reaction

theorem conditionEnd_eases (reaction : (s.source k).reaction ≠ .none) : conditionEnd k s =
    if (s.source k).state = .grace then raiseEvent .faultEased (toByte k.val) 0
      (s.setSource k { s.source k with condition := false, state := .inactive, timer := none })
    else s.setSource k { s.source k with condition := false } := by
  rw [conditionEnd_eq, sourceEvent_raised _ _ (by rw [source_setSource_self]; exact reaction)]

/-! ## The supply state (R142 to R144) -/

theorem endBrownout_eq (s : State) : endBrownout s = { s with
    chans := Vector.ofFn fun c => enterStop .coast (s.chan c), sound := stopNow s.sound } := by
  unfold endBrownout coastAll
  rw [forEach_modChan]
  rfl

theorem changeSupply_frame (old new : SupplyState) (v : Nat) (s : State) :
    (changeSupply old new v s).watches = s.watches ∧ (changeSupply old new v s).fault = s.fault := by
  cases old <;> cases new <;> simp [changeSupply, sagAll_eq, endBrownout_eq, State.withSupply, State.withSound]

theorem changeSupply_same {old : SupplyState} (h : s.supply.state = old) (v : Nat) : changeSupply old old v s = s := by
  have stays : changeSupply old old v s = s.withSupply old := by cases old <;> rfl
  rw [stays, State.withSupply, ← h]

/-- The state a battery sample has been put into (R142). -/
def withSample (mv : Nat) (s : State) : State := { s with supply := { s.supply with window := shiftIn s.supply.window mv } }

theorem exec_supplySample (running : s.inReset = false) (mv : Nat) :
    exec (.supplySample mv) s = .next (vbatStep (withSample mv s)) := by
  show Host.Outcome.next (if s.inReset = true then s else vbatStep (withSample mv s)) = _
  rw [running, if_neg Bool.false_ne_true]

/-- The state once the supply state has followed Vbat (R143, R144). -/
def supplied (s : State) : State :=
  changeSupply s.supply.state (nextSupply s.supply.state s.supply.vbat) s.supply.vbat s

theorem source_supplied (s : State) (k : Fin 8) : (supplied s).source k = s.source k :=
  source_of_sources (congrArg FaultUnit.sources (changeSupply_frame ..).2) k

theorem watch_supplied (s : State) (k : Fin 8) : (supplied s).watch k = s.watch k :=
  watch_of_watches (changeSupply_frame ..).1 k

theorem vbatStep_eq (s : State) : vbatStep s = watchUpdate .supply
    (tellCondition srcSupplyLow (lowNow (s.source srcSupplyLow).condition s.supply.vbat) (supplied s)) := by
  rw [← source_supplied]
  rfl

theorem vbatStep_unwatched (h : ∀ k, s.watch k = none) : vbatStep s =
    tellCondition srcSupplyLow (lowNow (s.source srcSupplyLow).condition s.supply.vbat) (supplied s) := by
  rw [vbatStep_eq]
  exact watchUpdate_unwatched (fun k => by rw [watch_of_watches (tellCondition_told ..).watches, watch_supplied, h]) _

/-- The SUPPLY_LOW condition is as it was last told (R145). -/
def Steady (s : State) : Prop := lowNow (s.source srcSupplyLow).condition s.supply.vbat = (s.source srcSupplyLow).condition

theorem vbatStep_steady (steady : Steady s) : vbatStep s = watchUpdate .supply (supplied s) := by
  rw [vbatStep_eq, steady, ← source_supplied, tellCondition_same]

theorem vbatStep_quiet (h : ∀ k, s.watch k = none) (steady : Steady s) : vbatStep s = supplied s := by
  rw [vbatStep_steady steady]
  exact watchUpdate_unwatched (fun k => by rw [watch_supplied, h]) _

theorem supplied_same (h : nextSupply s.supply.state s.supply.vbat = s.supply.state) : supplied s = s := by
  rw [supplied, h, changeSupply_same rfl]

theorem supplied_eq {old new : SupplyState} {v : Nat} (hold : s.supply.state = old) (hv : s.supply.vbat = v)
    (hnew : nextSupply old v = new) : supplied s = changeSupply old new v s := by
  rw [supplied, hold, hv, hnew]

theorem lowNow_steady {b : Bool} {v : Nat} (h : (b = false ∧ 5200 ≤ v) ∨ (b = true ∧ v < 5400)) : lowNow b v = b := by
  rcases h with ⟨rfl, h⟩ | ⟨rfl, h⟩
  · exact decide_eq_false (by omega)
  · exact decide_eq_true (by omega)

theorem nextSupply_sag_stays {v : Nat} (low : 4500 ≤ v) (high : v ≤ 6200) : nextSupply .sag v = .sag := by
  rw [nextSupply, if_neg (by omega), if_neg (by omega)]

theorem chan_ofFn {f : Fin 4 → Channel} (c : Fin 4) : (Vector.ofFn f).get c = f c := by
  simp [Vector.get_eq_getElem]

theorem exec_temperatureReading (running : s.inReset = false) (deg : Int) :
    exec (.temperatureReading deg) s = .next (temperatureStep deg s) := by
  rw [show exec (.temperatureReading deg) s = execTemperatureReading deg s from rfl, execTemperatureReading, running,
    if_neg Bool.false_ne_true]

theorem lowerLimit_capped (n : Nat) (x : Channel) : lowerLimit n x = if x.leff ≤ n then x else { x with
    leff := n, duty := max (-(n : Int)) (min n x.duty)
    nextC := if n < x.duty.natAbs then (if n < 4 then 0 else 2 * n) else x.nextC } := by
  by_cases within : x.leff ≤ n
  · rw [if_pos within]
    exact if_neg (by omega)
  · have caps : n < x.leff := by omega
    have leff : min x.leff n = n := by omega
    rw [if_neg within, lowerLimit_full, if_pos caps, leff]
    simp only [caps, true_and]

/-- A channel in COAST has nothing to lower but its Leff (R89, R144). -/
theorem lowerLimit_coasted (n : Nat) (x : Channel) :
    lowerLimit n (enterStop .coast x) = { enterStop .coast x with leff := min x.leff n } := by
  rw [lowerLimit_full]
  simp [enterStop]

/-- Entry into SAG caps every Leff (R89, R144). -/
theorem changeSupply_sags (v : Nat) (t : State) : changeSupply .normal .sag v t =
    raiseEvent .supplySag 1 (BitVec.ofNat 32 v) { t.withSupply .sag with
      chans := Vector.ofFn fun c => lowerLimit (min 800 (t.chan c).params.limit) (t.chan c) } := by
  rw [← toWord_natCast]
  show raiseEvent _ _ _ (sagAll (t.withSupply .sag)) = _
  rw [sagAll_eq]
  rfl

/-- Entry into BROWNOUT stops the player (R137, R139, R144). -/
theorem changeSupply_browns {old : SupplyState} (h : old ≠ .brownout) (v : Nat) (t : State) :
    changeSupply old .brownout v t = raiseEvent .supplySag 2 (BitVec.ofNat 32 v) { t.withSupply .brownout with
      sound := { t.sound with
        player := .stopped, current := none, count := 0, stopAtEnd := false, nextCompare := 250 } } := by
  rw [← toWord_natCast]
  cases old with
  | brownout => exact absurd rfl h
  | _ => rfl

theorem nextSupply_browns {old : SupplyState} {v : Nat} (h : old ≠ .brownout) (low : v < 4500) :
    nextSupply old v = .brownout := by
  cases old with
  | brownout => exact absurd rfl h
  | _ => exact if_pos low

theorem changeSupply_eases (v : Nat) (t : State) :
    changeSupply .sag .normal v t = raiseEvent .supplyNormal 0 (BitVec.ofNat 32 v) (t.withSupply .normal) := by
  rw [← toWord_natCast]
  rfl

/-- The end of BROWNOUT into NORMAL (R75, R139, R144). -/
theorem changeSupply_recovers (v : Nat) (t : State) : changeSupply .brownout .normal v t =
    raiseEvent .supplyNormal 0 (BitVec.ofNat 32 v) (raiseEvent .brownoutEnd 0 (BitVec.ofNat 32 v)
      { t.withSupply .normal with
        chans := Vector.ofFn fun c => enterStop .coast (t.chan c), sound := stopNow t.sound }) := by
  rw [← toWord_natCast]
  show raiseEvent _ _ _ (raiseEvent _ _ _ (endBrownout (t.withSupply .normal))) = _
  rw [endBrownout_eq]
  rfl

/-- The end of BROWNOUT into SAG (R75, R89, R139, R144). -/
theorem changeSupply_recovers_sag (v : Nat) (t : State) : changeSupply .brownout .sag v t =
    raiseEvent .brownoutEnd 1 (BitVec.ofNat 32 v) { t.withSupply .sag with
      chans := Vector.ofFn fun c => lowerLimit (min 800 (t.chan c).params.limit) (enterStop .coast (t.chan c))
      sound := stopNow t.sound } := by
  have coasted (u : State) (c : Fin 4) : (endBrownout u).chan c = enterStop .coast (u.chan c) := by
    rw [endBrownout_eq]
    exact chan_ofFn c
  rw [← toWord_natCast]
  show raiseEvent _ _ _ (sagAll (endBrownout (t.withSupply .sag))) = _
  rw [sagAll_eq]
  simp only [coasted]
  rw [endBrownout_eq]
  rfl

/-- Settles O52: the supply state, SUPPLY_LOW and the watches of the SUPPLY, then the temperature. -/
theorem supplyFollowsSamples : Obligations.SupplyFollowsSamples := by
  unfold Obligations.SupplyFollowsSamples
  refine ⟨fun mv s running unwatched => ?_, fun mv s running sag => ?_, fun deg s running => ?_⟩
  · intro w v t low
    have taken : withSample mv s = t := rfl
    clear_value w
    have vbat : t.supply.vbat = v := rfl
    have state : t.supply.state = s.supply.state := rfl
    have watch (k : Fin 8) : t.watch k = s.watch k := rfl
    have source (k : Fin 8) : t.source k = s.source k := rfl
    have chan (c : Fin 4) : t.chan c = s.chan c := rfl
    have sound : t.sound = s.sound := rfl
    clear_value t v
    have steady : Steady t := by
      rw [Steady, vbat, source]
      exact lowNow_steady low
    have runs : exec (.supplySample mv) s = .next (supplied t) := by
      rw [exec_supplySample running, taken, vbatStep_quiet (fun k => (watch k).trans (unwatched k)) steady]
    have follows {old new : SupplyState} (hold : s.supply.state = old) (hnew : nextSupply old v = new) :
        exec (.supplySample mv) s = .next (changeSupply old new v t) := by
      rw [runs, supplied_eq (state.trans hold) vbat hnew]
    have stays {old : SupplyState} (hold : s.supply.state = old) (hnew : nextSupply old v = old) :
        exec (.supplySample mv) s = .next t := by
      rw [follows hold hnew, changeSupply_same (state.trans hold)]
    refine ⟨fun normal high => stays normal ?_, fun sag above below => stays sag (nextSupply_sag_stays above below),
      fun brownout under => stays brownout ?_, fun powered under => ?_, fun sag above => ?_, fun normal above below => ?_,
      fun brownout above => ?_⟩
    · rw [nextSupply, if_neg (by omega), if_neg (by omega)]
    · rw [nextSupply, if_neg (by omega)]
    · rw [follows rfl (nextSupply_browns powered under), changeSupply_browns powered, sound]
    · have ends : nextSupply .sag v = .normal := by rw [nextSupply, if_neg (by omega), if_pos above]
      rw [follows sag ends, changeSupply_eases]
    · have sags : nextSupply .normal v = .sag := by rw [nextSupply, if_neg (by omega), if_pos below]
      refine ⟨Vector.ofFn fun c => lowerLimit (min 800 (s.chan c).params.limit) (s.chan c), ?_, fun c => ?_⟩
      · simp only [follows normal sags, changeSupply_sags, chan]
      · exact (chan_ofFn c).trans (lowerLimit_capped ..)
    · by_cases high : 6200 < v
      · have ends : nextSupply .brownout v = .normal := by rw [nextSupply, if_pos above, if_pos high]
        refine ⟨Vector.ofFn fun c => enterStop .coast (s.chan c), ?_, fun c => ?_⟩
        · simp only [follows brownout ends, changeSupply_recovers, if_pos high, stopNow_eq, chan, sound]
        · rw [if_pos high]
          exact chan_ofFn c
      · have ends : nextSupply .brownout v = .sag := by rw [nextSupply, if_pos above, if_neg high]
        refine ⟨Vector.ofFn fun c => lowerLimit (min 800 (s.chan c).params.limit) (enterStop .coast (s.chan c)), ?_,
          fun c => ?_⟩
        · simp only [follows brownout ends, changeSupply_recovers_sag, if_neg high, stopNow_eq, chan, sound]
        · rw [if_neg high]
          exact (chan_ofFn c).trans (lowerLimit_coasted ..)
  · intro w v t f above below
    have taken : withSample mv s = t := rfl
    clear_value w
    have vbat : t.supply.vbat = v := rfl
    have state : t.supply.state = .sag := sag
    have source : t.source 5 = f := rfl
    have watch (k : Fin 8) : t.watch k = s.watch k := rfl
    clear_value t v f
    have rests : supplied t = t := supplied_same (by rw [state, vbat, nextSupply_sag_stays above below])
    have runs (unwatched : ∀ k, s.watch k = none) :
        exec (.supplySample mv) s = .next (tellCondition 5 (lowNow f.condition v) t) := by
      rw [exec_supplySample running, taken, vbatStep_unwatched fun k => (watch k).trans (unwatched k), rests, vbat,
        show t.source srcSupplyLow = f from source]
      rfl
    have steps (steady : Steady t) : exec (.supplySample mv) s = .next (watchUpdate .supply t) := by
      rw [exec_supplySample running, taken, vbatStep_steady steady, rests]
    refine ⟨fun unwatched quiet low reaction => ?_, fun unwatched present high reaction => ?_,
      fun k x hk subject alone low => ?_⟩
    · have begins : exec (.supplySample mv) s = .next (conditionBegin 5 t) := by
        rw [runs unwatched, quiet, show lowNow false v = true from decide_eq_true low,
          tellCondition_begins (by rw [source, quiet])]
      rw [begins, ← source]
      exact ⟨fun inactive grace => congrArg _ (conditionBegin_grace (source ▸ inactive) (source ▸ grace) (source ▸ reaction)),
        fun active => congrArg _ (conditionBegin_active (source ▸ active))⟩
    · rw [runs unwatched, present, show lowNow true v = false from decide_eq_false (by omega),
        tellCondition_ends (by rw [source, present]), conditionEnd_eases (source ▸ reaction), source]
      rfl
    · have steady : Steady t := by
        rw [Steady, show t.source srcSupplyLow = f from source, vbat]
        exact lowNow_steady low
      have evaluates : evaluateAt .supply k t = evaluate k x (BitVec.ofNat 32 v) t := by
        rw [evaluateAt_some ((watch k).trans hk), subject, ← toWord_natCast, ← vbat]
        rfl
      have once : watchUpdate .supply t = evaluateAt .supply k t :=
        forEach_once (mem_all8 k) nodup_all8 (fun j hj => evaluateAt_unwatched ((watch j).trans (alone j hj)) _)
          fun j hj => evaluateAt_unwatched (by rw [evaluates]; exact watch_evaluate_other hj ((watch j).trans (alone j hj))) _
      rw [steps steady, once, evaluates]
  · intro f t
    have runs : exec (.temperatureReading deg) s = .next (tellCondition 4 (hotNow f.condition deg) t) :=
      exec_temperatureReading running deg
    have source : t.source 4 = f := rfl
    have steady : tellCondition 4 f.condition t = t := tellCondition_same 4 t
    clear_value t f
    have begins (quiet : f.condition = false) (hot : 125 < deg) :
        exec (.temperatureReading deg) s = .next (conditionBegin 4 t) := by
      rw [runs, quiet, show hotNow false deg = true from decide_eq_true hot, tellCondition_begins (by rw [source, quiet])]
    refine ⟨fun quiet cool => ?_, fun present hot => ?_, fun present cool reaction => ?_,
      fun quiet hot inactive grace reaction => ?_, fun quiet hot inactive grace reaction => ?_⟩
    · rw [quiet] at steady
      rw [runs, quiet, show hotNow false deg = false from decide_eq_false (by omega), steady]
    · rw [present] at steady
      rw [runs, present, show hotNow true deg = true from decide_eq_true hot, steady]
    · rw [runs, present, show hotNow true deg = false from decide_eq_false (by omega),
        tellCondition_ends (by rw [source, present]), conditionEnd_eases (source ▸ reaction), source]
      rfl
    · have reports := tellCondition_reports (s := t) (i := 4) (source ▸ quiet) (source ▸ inactive) (source ▸ grace)
        (source ▸ reaction)
      rw [runs, quiet, show hotNow false deg = true from decide_eq_true hot, reports, source]
      rfl
    · rw [begins quiet hot, conditionBegin_grace (source ▸ inactive) (source ▸ grace) (source ▸ reaction), source]
      rfl

end Sys2Proof.Machine
end

section
/-! PROOFS. The fault unit: sources that latch, their settings, the keepalive, the manual halt and clearing (R146 to R154). -/

namespace Sys2Proof.Machine

variable {s : State} {k : Fin 8}

theorem nat16_eq (n : Nat) : nat16 n = [BitVec.ofNat 8 (n / 256), BitVec.ofNat 8 n] := by
  have high : (BitVec.ofNat 16 n).extractLsb' 8 8 = BitVec.ofNat 8 (n / 256) :=
    BitVec.eq_of_toNat_eq (by simp [BitVec.extractLsb'_toNat, Nat.shiftRight_eq_div_pow]; omega)
  have low : (BitVec.ofNat 16 n).extractLsb' 0 8 = BitVec.ofNat 8 n :=
    BitVec.eq_of_toNat_eq (by simp [BitVec.extractLsb'_toNat])
  rw [nat16, halfBytes, high, low]

/-! ## Reactions of a latching source (R147, R148) -/

/-- What a halt of the station makes of a channel (R71, R149). -/
def haltedChan (st : Style) (ch : Channel) : Channel := { enterStop st ch with haltFlag := true }

/-- The state of a halted station (R149). -/
def stationHalted (st : Style) (u : State) : State := { u with
  fault := { u.fault with halted := true }
  chans := Vector.ofFn fun c : Fin 4 => haltedChan st (u.chan c)
  sound := { u.sound with
    player := .stopped, current := none, count := 0, stopAtEnd := false, queue := [], nextCompare := 250 } }

theorem haltStation_halted (st : Style) (u : State) : haltStation st u = stationHalted st u := haltStation_eq st u

/-- A source put into LATCHED, before its event and reaction (R147). -/
def latched (k : Fin 8) (s : State) : State := s.setSource k { s.source k with state := .latched, timer := none }

section

theorem latch_none (h : (s.source k).reaction = .none) : latch k s = latched k s := by
  rw [latch_eq, if_pos h, h]
  rfl

theorem latch_told_eq (h : (s.source k).reaction ≠ .none) : latch k s =
    react (toByte k.val) (stallChannel k) (s.source k).reaction (s.source k).style (s.source k).groups
      (raiseEvent .faultLatched (toByte k.val) ((s.source k).reaction.code.setWidth 32) (latched k s)) := by
  rw [latch_eq, if_neg h]
  rfl

theorem latch_report (h : (s.source k).reaction = .report) :
    latch k s = raiseEvent .faultLatched (toByte k.val) 1 (latched k s) := by
  rw [latch_told_eq (by rw [h]; decide), h]
  rfl

theorem latch_localHalt (h : (s.source k).reaction = .localHalt) : latch k s =
    stationHalted (s.source k).style (raiseEvent .faultLatched (toByte k.val) 3 (latched k s)) := by
  rw [latch_told_eq (by rw [h]; decide), h, ← haltStation_halted]
  rfl

theorem haltMask_congr {t : State} (h : t.cue = s.cue) (g : HaltGroups) : haltMask g t = haltMask g s := by
  cases g with
  | membership => exact congrArg CueUnit.membership h
  | mask m => rfl

theorem latch_groupHalt (h : (s.source k).reaction = .groupHalt) : latch k s =
    (offer .halt [haltMask (s.source k).groups s, toByte k.val]
      (stationHalted (s.source k).style (raiseEvent .faultLatched (toByte k.val) 4 (latched k s)))).1 := by
  have membership : (haltStation (s.source k).style (raiseEvent .faultLatched (toByte k.val) 4 (latched k s))).cue = s.cue := by
    rw [(haltStation_told ..).cue, raiseEvent_cue]
    rfl
  rw [latch_told_eq (by rw [h]; decide), h, ← haltStation_halted, ← haltMask_congr membership]
  rfl

theorem latch_channelStop {c : Fin 4} (hc : c.val = k.val) (h : (s.source k).reaction = .channelStop) : latch k s =
    (raiseEvent .faultLatched (toByte k.val) 2 (latched k s)).setChan c (haltedChan (s.source k).style (s.chan c)) := by
  obtain rfl : k = srcStall c := Fin.ext hc.symm
  rw [latch_stalled h, haltChannel, State.modChan, chan_raiseEvent]
  rfl

end

theorem exec_graceTimerExpiry_spent (h : graceSpent (s.source k) = true) :
    exec (.graceTimerExpiry k) s = .next (latch k s) := congrArg _ (if_pos h)

theorem exec_graceTimerExpiry_unspent (h : ¬graceSpent (s.source k) = true) :
    exec (.graceTimerExpiry k) s = .next s := congrArg _ (if_neg h)

/-! ## CONFIG_FAULT (R146) -/

section
variable {h : ReqCtx} {source reaction style form mask : Byte} {grace : Half}

theorem doConfigFault_source {st : Style} {r : Reaction} {g : HaltGroups} (hst : styleOf style = some st)
    (hr : reactionOf reaction = some r) (hg : groupsOf form mask = some g) (fits : reactionFits k r = true) :
    doConfigFault h (BitVec.ofNat 8 k.val) reaction grace style form mask s =
      answer h (if grace.toNat ≤ 2000 then .ok else .limited)
        (settingBytes (BitVec.ofNat 8 k.val) r (min 2000 grace.toNat) st g)
        (storeSettings k r (min 2000 grace.toNat) st g s) := by
  have code : ¬(9 < (BitVec.ofNat 8 k.val).toNat ∨ (BitVec.ofNat 8 k.val).toNat = 8) := by
    rw [BitVec.toNat_ofNat]
    omega
  have limited : okOr (decide (2000 < grace.toNat)) = if grace.toNat ≤ 2000 then .ok else .limited := by
    by_cases within : grace.toNat ≤ 2000
    · rw [if_pos within, decide_eq_false (by omega)]
      rfl
    · rw [if_neg within, decide_eq_true (by omega)]
      rfl
  rw [doConfigFault, if_neg code, hst]
  dsimp only
  rw [watchOf_ofNat, hr, hg, ← limited]
  exact if_pos fits

theorem doConfigFault_unfit {st : Style} {r : Reaction} {g : HaltGroups} (hst : styleOf style = some st)
    (hr : reactionOf reaction = some r) (hg : groupsOf form mask = some g) (unfit : ¬reactionFits k r = true) :
    doConfigFault h (BitVec.ofNat 8 k.val) reaction grace style form mask s = answer h .badArg [] s := by
  have code : ¬(9 < (BitVec.ofNat 8 k.val).toNat ∨ (BitVec.ofNat 8 k.val).toNat = 8) := by
    rw [BitVec.toNat_ofNat]
    omega
  rw [doConfigFault, if_neg code, hst]
  dsimp only
  rw [watchOf_ofNat, hr, hg]
  exact if_neg unfit

theorem storeSettings_quiet (h : (s.source k).state ≠ .grace) (r : Reaction) (g : Nat) (st : Style) (groups : HaltGroups) :
    storeSettings k r g st groups s =
      s.setSource k { s.source k with reaction := r, grace := g, style := st, groups := groups } := by
  refine if_neg fun spent => h ?_
  exact ((graceSpent_eq_true _).1 spent).1

theorem storeSettings_report {spent : Nat} (h : (s.source k).state = .grace) (ht : (s.source k).timer = some spent)
    (g : Nat) (st : Style) (groups : HaltGroups) : storeSettings k .report g st groups s =
      if g ≤ spent then raiseEvent .faultLatched (toByte k.val) 1 (s.setSource k { s.source k with
        reaction := .report, grace := g, style := st, groups := groups, state := .latched, timer := none })
      else s.setSource k { s.source k with reaction := .report, grace := g, style := st, groups := groups } := by
  refine (if_congr ((graceSpent_eq_true _).trans ?_) ?_ rfl)
  · constructor
    · rintro ⟨-, n, hn, out⟩
      cases ht.symm.trans hn
      exact out
    · exact fun out => ⟨h, spent, ht, out⟩
  · rw [latch_report (by rw [source_setSource_self]), latched, source_setSource_self, setSource_setSource]

end

/-! ## The keepalive (R154) -/

/-- The state with the keepalive timer put at `t`. -/
def withKeepTimer (t : Option Nat) (s : State) : State := { s with fault := { s.fault with keepTimer := t } }

theorem exec_keepaliveTimerExpiry (out : s.fault.keepTimer = some 0) :
    exec .keepaliveTimerExpiry s = .next (tellCondition srcLinkSilent true (withKeepTimer none s)) :=
  congrArg _ (if_pos ((ranOut_eq_true _).2 out))

theorem keepPeriodOf_eq (p : Half) : keepPeriodOf p.toNat = if p = 0 then 0 else max 100 (min 5000 p.toNat) := by
  have zero : p.toNat = 0 ↔ p = 0 := by bv_omega
  rw [keepPeriodOf, clampN_eq (by decide)]
  exact if_congr zero rfl rfl

/-- A condition that begins with no grace time and the reaction LOCAL_HALT (R147, R149). -/
theorem tellCondition_halts (quiet : (s.source k).condition = false) (inactive : (s.source k).state = .inactive)
    (grace : (s.source k).grace = 0) (reaction : (s.source k).reaction = .localHalt) : tellCondition k true s =
      stationHalted (s.source k).style (raiseEvent .faultLatched (toByte k.val) 3
        (s.setSource k { s.source k with condition := true, state := .latched, timer := none })) := by
  rw [tellCondition_begins quiet, conditionBegin_latches inactive grace,
    latch_localHalt (by rw [source_setSource_self]; exact reaction), latched, source_setSource_self, setSource_setSource]

theorem restartKeepalive_ends (present : (s.source 6).condition = true) :
    let u := withKeepTimer (keepStart s.fault.keepPeriod) s
    let eased := u.setSource 6 { s.source 6 with condition := false, state := .inactive, timer := none }
    restartKeepalive s = if (s.source 6).state = .grace then
        (if (s.source 6).reaction = .none then eased else raiseEvent .faultEased 6 0 eased)
      else u.setSource 6 { s.source 6 with condition := false } := by
  intro u eased
  have ends : restartKeepalive s = conditionEnd 6 u := tellCondition_ends (s := u) present
  have source : u.source 6 = s.source 6 := rfl
  rw [ends, conditionEnd_eq, source, sourceEvent, source_setSource_self]
  rfl

/-- Settles O53: the reactions, the settings, and the keepalive. -/
theorem faultSourcesRun : Obligations.FaultSourcesRun := by
  unfold Obligations.FaultSourcesRun
  intro stopped halt
  have halts (st : Style) (u : State) : stationHalted st u = halt st u := rfl
  have stops (st : Style) (ch : Channel) : haltedChan st ch = stopped st ch := rfl
  clear_value stopped halt
  refine ⟨fun k s => ?_, fun h k grace mask s => ?_, fun h p s => ?_⟩
  · intro f t
    refine ⟨fun other => ?_, fun spent in_grace timer => ⟨fun early => ?_, fun late => ?_⟩⟩
    · refine exec_graceTimerExpiry_unspent fun spent => ?_
      obtain ⟨in_grace, n, timer, -⟩ := (graceSpent_eq_true _).1 spent
      rcases other with other | other
      · exact other in_grace
      · exact Option.some_ne_none n (timer.symm.trans other)
    · refine exec_graceTimerExpiry_unspent fun spent => ?_
      obtain ⟨-, n, at_n, out⟩ := (graceSpent_eq_true _).1 spent
      cases timer.symm.trans at_n
      exact absurd out (Nat.not_le.2 early)
    · rw [exec_graceTimerExpiry_spent ((graceSpent_eq_true _).2 ⟨in_grace, spent, timer, late⟩)]
      refine ⟨fun r => congrArg _ (latch_none r), fun r => congrArg _ (latch_report r), fun c hc r => ?_, fun r => ?_,
        fun r => ?_⟩
      · rw [latch_channelStop hc r, stops]
        rfl
      · rw [latch_localHalt r, halts]
        rfl
      · rw [latch_groupHalt r, halts]
        rfl
  · intro b f g
    refine ⟨fun other => ?_, fun spent in_grace timer => ?_, fun high => ?_, ?_, fun c hc => ?_⟩
    · refine congrArg _ ((doConfigFault_source rfl rfl rfl rfl).trans ?_)
      rw [storeSettings_quiet other, settingBytes, nat16_eq]
      rfl
    · intro kept
      refine congrArg _ ((doConfigFault_source rfl rfl rfl rfl).trans ?_)
      rw [storeSettings_report in_grace timer, settingBytes, nat16_eq]
      rfl
    · exact congrArg _ (doConfigFault_unfit rfl rfl rfl (by simp only [reactionFits, decide_eq_true_eq]; omega))
    · rfl
    · refine congrArg _ (if_pos ?_)
      rcases hc with rfl | hc
      · exact .inr rfl
      · exact .inl hc
  · intro q
    refine ⟨?_, fun early => congrArg _ (if_neg (ranOut_early early)), fun out quiet inactive grace reaction => ?_,
      fun out quiet inactive grace reaction => ?_, fun present => ?_, fun quiet => ?_⟩
    · show Host.Outcome.next (doSetKeepalive h p s) = _
      rw [doSetKeepalive, keepPeriodOf_eq, okOr_bne, nat16_eq]
      rfl
    · rw [exec_keepaliveTimerExpiry out]
      exact congrArg _ (tellCondition_reports (s := withKeepTimer none s) quiet inactive grace reaction)
    · rw [exec_keepaliveTimerExpiry out]
      refine congrArg _ ((tellCondition_halts (s := withKeepTimer none s) quiet inactive grace reaction).trans ?_)
      rw [halts]
      rfl
    · intro u eased
      exact restartKeepalive_ends (s := s) present
    · have same := tellCondition_same srcLinkSilent (withKeepTimer (keepStart s.fault.keepPeriod) s)
      rw [show ((withKeepTimer (keepStart s.fault.keepPeriod) s).source srcLinkSilent).condition = false from quiet] at same
      exact same

/-! ## The manual halt and clearing (R152, R153) -/

section
variable {h : ReqCtx} {reaction style form mask : Byte}

theorem haltReactionOf_none (h : reaction ≠ 3 ∧ reaction ≠ 4) : haltReactionOf reaction = none := by
  have three : reaction ≠ 3 → reaction.toNat ≠ 3 := by bv_omega
  have four : reaction ≠ 4 → reaction.toNat ≠ 4 := by bv_omega
  have h3 := three h.1
  have h4 := four h.2
  unfold haltReactionOf reactionOf
  split
  · rename_i named
    split at named <;> simp_all
  · rename_i named
    split at named <;> simp_all
  · rfl

theorem styleOf_none (h : 1 < style.toNat) : styleOf style = none := by
  unfold styleOf
  split
  · omega
  · omega
  · rfl

theorem groupsOf_none (h : 1 < form.toNat) : groupsOf form mask = none := by
  unfold groupsOf
  split
  · omega
  · omega
  · rfl

theorem doHalt_badArg (bad : haltReactionOf reaction = none ∨ styleOf style = none ∨ groupsOf form mask = none) :
    doHalt h reaction style form mask s = answer h .badArg [] s := by
  unfold doHalt
  split
  · rename_i hr hst hg
    rcases bad with bad | bad | bad
    · rw [bad] at hr
      contradiction
    · rw [bad] at hst
      contradiction
    · rw [bad] at hg
      contradiction
  · rfl

theorem doHalt_halts {r : Reaction} {st : Style} {g : HaltGroups} (hr : haltReactionOf reaction = some r)
    (hst : styleOf style = some st) (hg : groupsOf form mask = some g) :
    doHalt h reaction style form mask s = answer h .ok [if s.fault.halted then 1 else 0] (manualHalt r st g s) := by
  rw [doHalt, hr, hst, hg]
  rfl

end

/-- The state with MANUAL latched, before its event and reaction (R152). -/
def manualLatched (r : Reaction) (st : Style) (g : HaltGroups) (s : State) : State :=
  { s with fault := { s.fault with manual := some { reaction := r, style := st, groups := g } } }

theorem manualHalt_local (st : Style) (g : HaltGroups) (s : State) : manualHalt .localHalt st g s =
    stationHalted st (raiseEvent .faultLatched 8 3 (manualLatched .localHalt st g s)) := by
  rw [← haltStation_halted]
  rfl

theorem manualHalt_group (st : Style) (mask : Byte) (s : State) : manualHalt .groupHalt st (.mask mask) s =
    (offer .halt [mask, 8] (stationHalted st (raiseEvent .faultLatched 8 4 (manualLatched .groupHalt st (.mask mask) s)))).1 := by
  rw [← haltStation_halted]
  rfl

theorem blockingMask_ne_zero (s : State) : blockingMask s ≠ 0 ↔
    ∃ k : Fin 8, (s.source k).state = .latched ∧ (s.source k).condition = true :=
  (sourceMask_ne_zero _).trans (exists_congr fun k => by rw [Bool.and_eq_true, decide_eq_true_eq])

theorem testBit_blockingMask (s : State) (k : Fin 8) :
    (blockingMask s).testBit k.val = decide ((s.source k).state = .latched ∧ (s.source k).condition = true) := by
  rw [blockingMask, testBit_sourceMask, Bool.decide_and, Bool.decide_eq_true]

theorem clearedMask_eq (s : State) : clearedMask s = 2 ^ 8 *
    ((if s.fault.manual.isSome then 1 else 0) + (if s.fault.remote.isSome then 2 else 0)) +
      sourceMask fun k => decide ((s.source k).state = .latched) := by
  rw [clearedMask]
  split <;> split <;> omega

theorem testBit_clearedMask (s : State) :
    (∀ k : Fin 8, (clearedMask s).testBit k.val = decide ((s.source k).state = .latched)) ∧
    (clearedMask s).testBit 8 = s.fault.manual.isSome ∧ (clearedMask s).testBit 9 = s.fault.remote.isSome := by
  have at_bit (j : Nat) := Nat.testBit_two_pow_mul_add (i := 8)
    ((if s.fault.manual.isSome then 1 else 0) + (if s.fault.remote.isSome then 2 else 0))
    (sourceMask_lt fun k => decide ((s.source k).state = .latched)) j
  rw [clearedMask_eq]
  refine ⟨fun k => ?_, ?_, ?_⟩
  · rw [at_bit, if_pos k.isLt, testBit_sourceMask]
  · rw [at_bit]
    cases s.fault.manual.isSome <;> cases s.fault.remote.isSome <;> rfl
  · rw [at_bit]
    cases s.fault.manual.isSome <;> cases s.fault.remote.isSome <;> rfl

theorem unlatch_eq (f : FaultSource) : unlatch f = if f.state = .latched then { f with state := .inactive } else f := by
  unfold unlatch
  cases f.state <;> rfl

theorem source_clearFaults (s : State) (k : Fin 8) : (clearFaults s).source k = unlatch (s.source k) := by
  rw [clearFaults_eq]
  exact get_mapEach unlatch s.fault.sources k

/-- Settles O54: HALT with each of its reactions, then CLEAR_FAULT refused and taken. -/
theorem haltAndClear : Obligations.HaltAndClear := by
  unfold Obligations.HaltAndClear
  refine ⟨fun h style mask s => ⟨fun reaction form bad => ?_, fun st named => ?_⟩,
    fun h s => ⟨fun held => ?_, fun free => ?_⟩⟩
  · refine congrArg _ (doHalt_badArg ?_)
    rcases bad with bad | bad | bad
    · exact .inl (haltReactionOf_none bad)
    · exact .inr (.inl (styleOf_none bad))
    · exact .inr (.inr (groupsOf_none bad))
  · have style_of : styleOf style = some st := by rcases named with ⟨rfl, rfl⟩ | ⟨rfl, rfl⟩ <;> rfl
    have fault := raiseEvent_fault .faultLatched 8 3 (manualLatched .localHalt st (.mask mask) s)
    refine ⟨stationHalted st (raiseEvent .faultLatched 8 3 (manualLatched .localHalt st (.mask mask) s)), ?_, ?_, fun c => ?_,
      ?_, raiseEvent_ports .., raiseEvent_watches .., raiseEvent_cue .., raiseEvent_listen .., raiseEvent_publish ..,
      raiseEvent_supply .., stationHalted st (raiseEvent .faultLatched 8 4 (manualLatched .groupHalt st (.mask mask) s)),
      raiseEvent_link_own .., ?_, ?_, ?_, rfl⟩
    · rw [← manualHalt_local]
      exact congrArg _ (doHalt_halts rfl style_of rfl)
    · rw [stationHalted, fault]
      rfl
    · refine (chan_ofFn c).trans ?_
      rw [chan_raiseEvent]
      rfl
    · rw [stationHalted, raiseEvent_sound]
      rfl
    · rw [← manualHalt_group]
      exact congrArg _ (doHalt_halts rfl style_of rfl)
    · simp only [stationHalted, chan_raiseEvent]
      rfl
    · simp only [stationHalted, raiseEvent_sound]
      rfl
  · refine ⟨blockingMask s, (blockingMask_ne_zero s).2 held, ?_, testBit_blockingMask s⟩
    rw [← nat16_eq]
    exact congrArg _ (if_pos ((blockingMask_ne_zero s).2 held))
  · have none_held : ¬blockingMask s ≠ 0 := fun blocked => by
      obtain ⟨k, latched, present⟩ := (blockingMask_ne_zero s).1 blocked
      rw [free k latched] at present
      exact Bool.false_ne_true present
    obtain ⟨sources, manual, remote⟩ := testBit_clearedMask s
    refine ⟨clearedMask s, clearFaults s, ?_, by rw [clearFaults_eq], by rw [clearFaults_eq], by rw [clearFaults_eq],
      by rw [clearFaults_eq], fun k => (source_clearFaults s k).trans (unlatch_eq _), chan_clearFaults s, sources,
          manual, remote⟩
    rw [← nat16_eq, ← toWord_natCast]
    exact congrArg _ (if_neg none_held)

end Sys2Proof.Machine
end

section
/-! PROOFS. The tablet line: what the receive states make of the bytes of a message, and what a good message's body is taken
for. -/

namespace Sys2Proof.Machine

/-! ## The receive states -/

@[simp] theorem setRx_setRx (a b : TabletRx) (s : State) : setRx a (setRx b s) = setRx a s := rfl

@[simp] theorem setRx_rx (a : TabletRx) (s : State) : (setRx a s).tablet.rx = a := rfl

theorem setRx_same {a : TabletRx} {s : State} (h : s.tablet.rx = a) : setRx a s = s := by
  subst h
  rfl

/-- A byte that ends no message only moves the receive state. -/
theorem feedByte_moves {b : LineByte} {st : TabletRx} {s : State} (h : rxByte b s.tablet.rx = (st, .none)) :
    feedByte b s = setRx st s := by
  unfold feedByte
  rw [h]

theorem feedByte_bad {b : LineByte} {st : TabletRx} {s : State} (h : rxByte b s.tablet.rx = (st, .bad)) :
    feedByte b s = badTabletMessage s := by
  unfold feedByte
  rw [h]
  rfl

theorem feedByte_good {b : LineByte} {st : TabletRx} {body : List Byte} {s : State}
    (h : rxByte b s.tablet.rx = (st, .good body)) : feedByte b s = takeRequest body (setRx st s) := by
  unfold feedByte
  rw [h]

theorem feedByte_sync {s : State} (h : s.tablet.rx = .hunt) : feedByte (sentByte 0xA5) s = setRx .length s :=
  feedByte_moves (by rw [h]; rfl)

theorem feedByte_length {len : Byte} {s : State} (h : s.tablet.rx = .length) (some : len ≠ 0) (most : len.toNat ≤ 60) :
    feedByte (sentByte len) s = setRx (.body len []) s := by
  refine feedByte_moves ?_
  rw [h]
  refine if_neg ?_
  rintro (stop | zero | long)
  · exact Bool.noConfusion stop
  · exact some (BitVec.eq_of_toNat_eq zero)
  · exact absurd long (Nat.not_lt.mpr most)

theorem feedByte_badLength {len : Byte} {s : State} (h : s.tablet.rx = .length) (bad : len = 0 ∨ 60 < len.toNat) :
    feedByte (sentByte len) s = badTabletMessage s := by
  refine feedByte_bad (st := .hunt) ?_
  rw [h]
  exact if_pos (.inr (bad.imp_left fun zero => congrArg BitVec.toNat zero))

theorem rxByte_bodyPart {len b : Byte} {got : List Byte} (short : got.length + 1 < len.toNat) :
    rxByte (sentByte b) (.body len got) = (.body len (got ++ [b]), .none) := by
  simp only [rxByte, sentByte, Bool.false_eq_true, if_false, Nat.not_le.mpr short]

theorem rxByte_bodyEnd {len b : Byte} {got : List Byte} (ends : len.toNat ≤ got.length + 1) :
    rxByte (sentByte b) (.body len got) = (.check len (got ++ [b]), .none) := by
  simp only [rxByte, sentByte, Bool.false_eq_true, if_false, ends, if_true]

/-- Bytes that leave the body short of its length are kept. -/
theorem forEach_bodyPart {len : Byte} {more : List Byte} : ∀ {got : List Byte} {s : State},
    s.tablet.rx = .body len got → got.length + more.length < len.toNat →
    forEach (more.map sentByte) feedByte s = setRx (.body len (got ++ more)) s := by
  induction more with
  | nil =>
    intro got s h _
    rw [List.append_nil]
    exact (setRx_same h).symm
  | cons b more ih =>
    intro got s h short
    rw [List.length_cons] at short
    have kept : feedByte (sentByte b) s = setRx (.body len (got ++ [b])) s :=
      feedByte_moves (by rw [h, rxByte_bodyPart (by omega)])
    have shorter : (got ++ [b]).length + more.length < len.toNat := by
      rw [List.length_append, List.length_singleton]
      omega
    rw [List.map_cons, forEach_cons, kept, ih (setRx_rx _ _) shorter, setRx_setRx, List.append_assoc, List.singleton_append]

/-- The bytes that complete the body leave the check byte to come. -/
theorem forEach_bodyWhole {len : Byte} {body : List Byte} {s : State} (h : s.tablet.rx = .body len [])
    (some : len ≠ 0) (whole : body.length = len.toNat) :
    forEach (body.map sentByte) feedByte s = setRx (.check len body) s := by
  have pos : 0 < len.toNat := Nat.pos_of_ne_zero fun zero => some (BitVec.eq_of_toNat_eq zero)
  have split := List.dropLast_append_getLast (l := body) (List.ne_nil_of_length_pos (by omega))
  generalize body.dropLast = front at split
  generalize body.getLast _ = last at split
  subst split
  rw [List.length_append, List.length_singleton] at whole
  have fore : forEach (front.map sentByte) feedByte s = setRx (.body len front) s :=
    forEach_bodyPart (got := []) h (by rw [List.length_nil]; omega)
  have ends : feedByte (sentByte last) (setRx (.body len front) s) = setRx (.check len (front ++ [last])) s :=
    feedByte_moves (by rw [setRx_rx, rxByte_bodyEnd (by omega)])
  rw [List.map_append, forEach_append, fore, List.map_singleton, forEach_cons, ends]
  rfl

theorem feedByte_badCheck {len check : Byte} {got : List Byte} {s : State} (h : s.tablet.rx = .check len got)
    (bad : check ≠ crc8 (len :: got)) : feedByte (sentByte check) s = badTabletMessage s := by
  refine feedByte_bad (st := .hunt) ?_
  rw [h]
  exact if_neg fun both => bad both.2

theorem feedByte_goodCheck {len : Byte} {got : List Byte} {s : State} (h : s.tablet.rx = .check len got) :
    feedByte (sentByte (crc8 (len :: got))) s = takeRequest got (setRx .hunt s) := by
  refine feedByte_good ?_
  rw [h]
  exact if_pos ⟨rfl, rfl⟩

/-! ## Messages from HUNT -/

theorem exec_tabletMessage {bytes : List LineByte} {s : State} (up : s.tablet.linkUp = true) :
    exec (.tabletMessage bytes) s = .next (forEach bytes feedByte s) :=
  congrArg Host.Outcome.next (if_pos up)

/-- The sync byte and a length of 1 to 60 begin a body. -/
theorem forEach_header {len : Byte} {rest : List LineByte} {s : State} (hunts : s.tablet.rx = .hunt) (some : len ≠ 0)
    (most : len.toNat ≤ 60) :
    forEach (sentByte 0xA5 :: sentByte len :: rest) feedByte s = forEach rest feedByte (setRx (.body len []) s) := by
  rw [forEach_cons, feedByte_sync hunts, forEach_cons, feedByte_length (setRx_rx _ _) some most, setRx_setRx]

theorem forEach_headerBad {len : Byte} {s : State} (hunts : s.tablet.rx = .hunt) (bad : len = 0 ∨ 60 < len.toNat) :
    forEach [sentByte 0xA5, sentByte len] feedByte s = badTabletMessage s := by
  rw [forEach_cons, feedByte_sync hunts, forEach_cons, feedByte_badLength (setRx_rx _ _) bad]
  rfl

theorem toNat_toByte {n : Nat} (h : n ≤ 60) : (toByte n).toNat = n := by
  rw [toByte, BitVec.toNat_ofNat]
  omega

theorem toByte_ne_zero {n : Nat} (pos : 0 < n) (h : n ≤ 60) : toByte n ≠ 0 := fun zero => by
  have := toNat_toByte h
  rw [zero] at this
  exact absurd this (Nat.ne_of_lt pos)

/-- The bytes of a whole message, from HUNT, hand over its body. -/
theorem exec_tabletMessage_taken {body : List Byte} {s : State} (up : s.tablet.linkUp = true)
    (hunts : s.tablet.rx = .hunt) (pos : 0 < body.length) (most : body.length ≤ 60) :
    exec (.tabletMessage (lineBytes body)) s = .next (takeRequest body s) := by
  have len := toNat_toByte most
  have spelt : lineBytes body = sentByte 0xA5 :: sentByte (toByte body.length) ::
      (body.map sentByte ++ [sentByte (crc8 (toByte body.length :: body))]) := by
    simp [lineBytes, messageBytes]
  rw [exec_tabletMessage up, spelt, forEach_header hunts (toByte_ne_zero pos most) (by omega), forEach_append,
    forEach_bodyWhole (setRx_rx _ _) (toByte_ne_zero pos most) len.symm, forEach_cons,
    feedByte_goodCheck (setRx_rx _ _), setRx_setRx, setRx_setRx, setRx_same hunts]
  rfl

/-! ## The body of a good message -/

theorem args_le {r : Request} (h : r.wf = true) : r.args.length ≤ 57 := by
  cases r with
  | setPublish period items =>
    have fits : items.length ≤ 54 := of_decide_eq_true h
    simp only [Request.args, halfBytes, List.length_append, List.length_cons, List.length_nil]
    omega
  | queueNotes start notes =>
    have fits : notes.length ≤ 8 := of_decide_eq_true h
    have each : (notes.flatMap noteBytes).length = notes.length * 7 := by
      rw [List.length_flatMap]
      exact (congrArg List.sum (List.map_const' (l := notes) (b := 7))).trans (List.sum_replicate_nat)
    rw [Request.args, List.length_append, each, List.length_singleton]
    omega
  | _ => simp only [Request.args, halfBytes, wordBytes, List.length_append, List.length_cons, List.length_nil]; decide

theorem namesSelf_eq_true {d : Byte} {s : State} : namesSelf d s = true ↔ d = 0 ∨ d = s.ownByte := by
  simp [namesSelf]

theorem namesSelf_eq_false {d : Byte} {s : State} (other : d ≠ 0) (far : d ≠ s.ownByte) : namesSelf d s = false := by
  rw [namesSelf, beq_eq_false_iff_ne.mpr other, beq_eq_false_iff_ne.mpr far, Bool.or_false]

/-- 0 and the own number are one station to a request's answer (R159). -/
theorem lineCtx_self {tag d : Byte} {s : State} (self : d = 0 ∨ d = s.ownByte) :
    lineCtx tag d s = { tag := tag, station := s.ownByte, dest := .self } := by
  unfold lineCtx
  by_cases zero : d = 0
  · rw [if_pos zero]
  · rw [if_neg zero, self.resolve_left zero]

theorem lineCtx_other {tag d : Byte} {s : State} (other : d ≠ 0) :
    lineCtx tag d s = { tag := tag, station := d, dest := .self } := by
  rw [lineCtx, if_neg other]

section Bodies

variable {tag d kind : Byte} {args : List Byte} {r : Request} {s : State}

theorem takeBody_own (decodes : decodeRequest kind args = some r) (self : namesSelf d s = true) :
    takeBody (tag :: d :: kind :: args) s = runRequest (lineCtx tag d s) r (restartKeepalive s) := by
  simp only [takeBody, decodes, self, if_true]

theorem takeBody_relayed (decodes : decodeRequest kind args = some r) (other : namesSelf d s = false)
    (near : d.toNat ≤ 14) : takeBody (tag :: d :: kind :: args) s =
      relay (lineCtx tag d s) (d.setWidth 4) (tag :: d :: kind :: args) s := by
  simp only [takeBody, decodes, other, Bool.false_eq_true, if_false, near, if_true]

theorem takeBody_noRoute (decodes : decodeRequest kind args = some r) (other : namesSelf d s = false)
    (far : 14 < d.toNat) : takeBody (tag :: d :: kind :: args) s = answer (lineCtx tag d s) .noRoute [] s := by
  simp only [takeBody, decodes, other, Bool.false_eq_true, if_false, Nat.not_le.mpr far]

theorem takeBody_undecoded (fails : decodeRequest kind args = none) : takeBody (tag :: d :: kind :: args) s =
    answer (lineCtx tag d s) .badRequest [] (if namesSelf d s = true then restartKeepalive s else s) := by
  simp only [takeBody, fails]

end Bodies

theorem requestBody_fits {tag d : Byte} {r : Request} (h : r.wf = true) :
    0 < (requestBody tag d r).length ∧ (requestBody tag d r).length ≤ 60 := by
  have := args_le h
  simp only [requestBody, List.length_cons]
  omega

/-- Settles O56: the receive states hand the body over, the decoder reads back what was encoded, and the destination byte says
who executes it. -/
theorem tabletMessageExecutesRequest : Obligations.TabletMessageExecutesRequest := by
  intro tag s up hunts t own
  have taken (body : List Byte) (pos : 0 < body.length) (most : body.length ≤ 60) :
      exec (.tabletMessage (lineBytes body)) s = .next (takeBody body t) := exec_tabletMessage_taken up hunts pos most
  refine ⟨fun r wf d self => ?_, fun r d wf other far => ?_, fun d body short => ?_, fun d kind args most fails => ?_⟩
  · have names : namesSelf d t = true := namesSelf_eq_true.mpr self
    have context : lineCtx tag d t = { tag := tag, station := own, dest := .self } := lineCtx_self self
    rw [taken _ (requestBody_fits wf).1 (requestBody_fits wf).2, exec_request, requestBody,
      takeBody_own (requestsRoundTrip r wf) names, context]
  · have decodes := requestsRoundTrip r wf
    have others : namesSelf d t = false := namesSelf_eq_false other far
    rw [taken _ (requestBody_fits wf).1 (requestBody_fits wf).2, requestBody]
    refine ⟨fun near => ?_, fun beyond => ?_⟩
    · rw [takeBody_relayed decodes others near, lineCtx_other other]
    · rw [takeBody_noRoute decodes others beyond, lineCtx_other other]
  · have self : lineCtx tag 0 t = { tag := tag, station := own, dest := .self } := lineCtx_self (.inl rfl)
    simp only [List.mem_cons, List.not_mem_nil, or_false] at short
    obtain rfl | rfl := short
    · exact (taken [tag] (Nat.lt_add_one 0) (Nat.le_add_left 1 59)).trans (by rw [takeBody, self])
    · exact (taken [tag, d] (Nat.zero_lt_succ 1) (Nat.le_add_left 2 58)).trans (by rw [takeBody, self])
  · have fits : (tag :: d :: kind :: args).length ≤ 60 := by
      simp only [List.length_cons]
      omega
    rw [taken (tag :: d :: kind :: args) (Nat.zero_lt_succ _) fits, takeBody_undecoded fails]
    simp only [namesSelf_eq_true]
    rfl

/-! ## The transmit line, bad bytes and LINK_UP -/

theorem inMessage_eq {s : State} (up : s.tablet.linkUp = true) (within : s.tablet.rx ≠ .hunt) : s.inMessage = true := by
  simp [State.inMessage, up, within]

theorem inMessage_none {s : State} (h : s.tablet.linkUp = false ∨ s.tablet.rx = .hunt) : s.inMessage = false := by
  rcases h with low | hunts
  · simp [State.inMessage, low]
  · simp [State.inMessage, hunts]

/-- A bad message, or a gap, ends the message being received; in HUNT there is none to end. -/
theorem ended_within {s : State} (up : s.tablet.linkUp = true) (within : s.tablet.rx ≠ .hunt) :
    Host.Outcome.next (if s.inMessage then badTabletMessage s else s) = (.next (badTabletMessage s) :
      Host.Outcome State Fault Refusal) := congrArg Host.Outcome.next (if_pos (inMessage_eq up within))

theorem ended_outside {s : State} (h : s.tablet.linkUp = false ∨ s.tablet.rx = .hunt) :
    Host.Outcome.next (if s.inMessage then badTabletMessage s else s) = (.next s : Host.Outcome State Fault Refusal) :=
  congrArg Host.Outcome.next (if_neg (by rw [inMessage_none h]; exact Bool.false_ne_true))

theorem inColdReset_none {s : State} (h : s.inReset = false ∨ s.tablet.restart.isSome = true) : s.inColdReset = false := by
  rcases h with runs | waits
  · simp [State.inColdReset, runs]
  · cases held : s.tablet.restart with
    | none => rw [held] at waits; cases waits
    | some => simp [State.inColdReset, held]

theorem badTabletMessage_eq (s : State) : badTabletMessage s =
    { s with tablet := { s.tablet with rx := .hunt, badCount := min 255 (s.tablet.badCount + 1) } } := rfl

/-- Settles O57: what each event of the line and each part of a message makes of the receive state. -/
theorem tabletLineEvents : Obligations.TabletLineEvents := by
  refine ⟨fun s => ⟨fun c hc => ?_, fun r rest up held => ?_, fun silent => ?_, fun r rest up held => ?_, fun low bs => ?_⟩,
    fun s => ⟨rfl, fun low quiet => ?_, fun still => ?_⟩, rfl, rfl, fun rate v bs => ⟨rfl, rfl⟩,
    fun len got s up hunts => ?_⟩
  · simp only [List.mem_cons, List.not_mem_nil, or_false] at hc
    obtain rfl | rfl := hc
    · exact ⟨ended_within, ended_outside⟩
    · exact ⟨ended_within, ended_outside⟩
  · refine congrArg Host.Outcome.next ((if_pos up).trans ?_)
    rw [held, List.drop_one, List.tail_cons]
  · rcases silent with low | empty
    · exact ⟨tabletLine_low low, congrArg Host.Outcome.next (if_neg (by rw [low]; exact Bool.false_ne_true))⟩
    · refine ⟨tabletLine_empty empty, congrArg Host.Outcome.next ?_⟩
      have none : s.tablet.reports.drop 1 = s.tablet.reports := by rw [empty]; rfl
      rw [none, ite_self]
  · exact (tabletLine_head up held).trans rfl
  · exact congrArg Host.Outcome.next (if_neg (by rw [low]; exact Bool.false_ne_true))
  · exact congrArg Host.Outcome.next (if_neg (by rw [inColdReset_none quiet, low]; exact Bool.false_ne_true))
  · refine congrArg Host.Outcome.next (if_pos ?_)
    rcases still with high | ⟨resets, none⟩
    · rw [high, Bool.or_true]
    · rw [State.inColdReset, resets, none]
      rfl
  · intro line bad
    have counted : badTabletMessage s = bad := by
      rw [badTabletMessage_eq, ← hunts]
    refine ⟨fun wrong => ?_, fun some most => ⟨fun short => ?_, fun whole => ⟨?_, fun check differs => ?_⟩⟩⟩
    · exact (exec_tabletMessage up).trans (congrArg _ ((forEach_headerBad hunts wrong).trans counted))
    · exact (exec_tabletMessage up).trans (congrArg _ ((forEach_header hunts some most).trans
        (forEach_bodyPart (more := got) (got := []) (setRx_rx _ _) ((Nat.zero_add _).trans_lt short))))
    · exact (exec_tabletMessage up).trans (congrArg _ ((forEach_header hunts some most).trans
        (forEach_bodyWhole (setRx_rx _ _) some whole)))
    · have spelt : line ([0xA5, len] ++ got ++ [check]) =
          sentByte 0xA5 :: sentByte len :: (got.map sentByte ++ [sentByte check]) := by
        show (0xA5 :: len :: (got ++ [check])).map sentByte = _
        simp only [List.map_cons, List.map_append, List.map_nil]
      rw [exec_tabletMessage up, spelt, forEach_header hunts some most, forEach_append,
        forEach_bodyWhole (setRx_rx _ _) some whole, forEach_cons, feedByte_badCheck (setRx_rx _ _) differs, ← counted]
      rfl

end Sys2Proof.Machine
end

section
/-! PROOFS. The relay table and the report queue: what a relayed request, an answer, an event and a notice put on the link or
in the queue. -/

namespace Sys2Proof.Machine

/-! ## DIRECTED frames -/

theorem claim_directed : ∀ (own : BitVec 4) (sub : BitVec 2),
    claimOf 2 own sub = BitVec.ofNat 8 (128 + sub.toNat + 4 * own.toNat) := by decide

theorem newFrame_command (own : BitVec 4) (id : Nat) (p : List Byte) : newFrame own (.command id) p =
    { owner := .command id, claim := BitVec.ofNat 8 (128 + 4 * own.toNat), payload := p, spoils := 0,
      contending := false } := by
  rw [newFrame, show claimOf (FrameOwner.command id).classBits.1 own (FrameOwner.command id).classBits.2 = _ from
    claim_directed own 0]
  rfl

theorem newFrame_answer (own : BitVec 4) (p : List Byte) : newFrame own .answer p =
    { owner := .answer, claim := BitVec.ofNat 8 (129 + 4 * own.toNat), payload := p, spoils := 0,
      contending := false } := by
  rw [newFrame, show claimOf FrameOwner.answer.classBits.1 own FrameOwner.answer.classBits.2 = _ from claim_directed own 1]
  rfl

theorem newFrame_notice (own : BitVec 4) (lost : Nat) (p : List Byte) : newFrame own (.notice lost) p =
    { owner := .notice lost, claim := BitVec.ofNat 8 (130 + 4 * own.toNat), payload := p, spoils := 0,
      contending := false } := by
  rw [newFrame, show claimOf (FrameOwner.notice lost).classBits.1 own (FrameOwner.notice lost).classBits.2 = _ from
    claim_directed own 2]
  rfl

/-- An offer with room in the queue, and no frame to begin at once, waits behind the others. -/
theorem offer_waits {o : FrameOwner} {p : List Byte} {s : State} (linked : s.standalone = false) (ho : o ≠ .publish)
    (room : s.link.queue.length < 7) (busy : s.link.state ≠ .idle) : offer o p s =
      ({ s with link := { s.link with queue := s.link.queue ++ [newFrame s.link.own o p] } }, true) :=
  offer_quiet linked (by exact busy) (enqueue_appends (fun pub => absurd (beq_iff_eq.mp pub) ho) room)

/-- A full queue without a PUBLISH frame takes no other. -/
theorem offer_full {o : FrameOwner} {p : List Byte} {s : State} (linked : s.standalone = false) (ho : o ≠ .publish)
    (full : 8 ≤ s.link.queue.length) (others : ∀ g ∈ s.link.queue, g.isPublish = false) : offer o p s = (s, false) :=
  offer_refused linked (enqueue_full (beq_eq_false_iff_ne.mpr ho) others full)

/-- A DIRECTED frame for this station is counted, restarts its sender's roster entry and is taken (R12, R20). -/
theorem exec_frameDelivered_directed {sub : Nat} {sender : BitVec 4} {rest : List Byte} {s : State} (hsub : sub < 4)
    (verdict : s.link.state = .verdict) (waiting : ∀ g ∈ s.link.queue, g.contending = false) (other : sender ≠ s.link.own)
    (present : (s.link.present sender).isSome = true)
    (held : s.link.rxHeld =
      some { claim := BitVec.ofNat 8 (128 + sub + 4 * sender.toNat), payload := s.link.own.setWidth 8 :: rest }) :
    exec .frameDelivered s = .next (takeDirected sub sender (s.link.own.setWidth 8 :: rest) { s with link := { s.link with
      state := .idle, gapOpen := false, rxBroken := false, driving := false, rxHeld := none,
      delivered := min 65535 (s.link.delivered + 1),
      roster := s.link.roster.set sender.toNat (some 1000) sender.isLt } }) := by
  have small := sender.isLt
  have code : (BitVec.ofNat 8 (128 + sub + 4 * sender.toNat)).toNat = 128 + sub + 4 * sender.toNat := by
    rw [BitVec.toNat_ofNat]
    omega
  have station : claimStation (BitVec.ofNat 8 (128 + sub + 4 * sender.toNat)) = sender := by
    refine BitVec.eq_of_toNat_eq ?_
    rw [claimStation_toNat, code]
    omega
  have heard : heardFrom sender (s.modLink slotDelivered) =
      (s.modLink slotDelivered).modLink fun l => l.setRoster sender (some 1000) := by
    rw [heardFrom_other (by exact other), stationHeard_present (by exact present)]
  rw [exec_frameDelivered_received verdict waiting held, handOver_directed (sub := sub) (by rw [code]; omega)
    (by rw [code]; omega), station, heard]
  rfl

/-! ## Relaying (R161, R163, R164) -/

section Relay

variable {h : ReqCtx} {dest : BitVec 4} {body : List Byte} {s : State}

theorem relay_long (long : 40 < body.length) : relay h dest body s = answer h .badRequest [] s := if_pos long

theorem relay_noRoute (fits : body.length ≤ 40) (lost : s.standalone = true ∨ s.link.present dest = none) :
    relay h dest body s = answer h .noRoute [] s := by
  unfold relay
  rw [if_neg (Nat.not_lt.mpr fits)]
  rcases lost with alone | absent
  · rw [if_pos alone]
  · rw [absent, Option.isNone_none, if_pos rfl, ite_self]

theorem relay_busy (fits : body.length ≤ 40) (linked : s.standalone = false)
    (present : (s.link.present dest).isSome = true) (full : 8 ≤ s.tablet.relays.length) :
    relay h dest body s = answer h .busy [] s := by
  unfold relay
  rw [if_neg (Nat.not_lt.mpr fits), if_neg (by simp [linked]), if_neg (by simp [Option.isNone_iff_eq_none,
    Option.isSome_iff_ne_none.mp present]), if_pos full]

theorem relay_queues (fits : body.length ≤ 40) (linked : s.standalone = false)
    (present : (s.link.present dest).isSome = true) (room : s.tablet.relays.length < 8) {t : State}
    (offered : offer (.command s.tablet.nextRelay) body s = (t, true)) :
    relay h dest body s = { t with tablet := { t.tablet with
      relays := t.tablet.relays ++
        [{ id := s.tablet.nextRelay, tag := h.tag, dest := dest, deadline := 100, status := .queued }]
      nextRelay := s.tablet.nextRelay + 1 } } := by
  unfold relay
  rw [if_neg (Nat.not_lt.mpr fits), if_neg (by simp [linked]), if_neg (by simp [Option.isNone_iff_eq_none,
    Option.isSome_iff_ne_none.mp present]), if_neg (Nat.not_le.mpr room)]
  dsimp only
  rw [offered]
  rfl

end Relay

section Table

variable {pre post : List Relay} {e : Relay} {s : State}

theorem relays_at (table : s.tablet.relays = pre ++ e :: post) : s.tablet.relays[pre.length]? = some e := by
  rw [table, List.getElem?_append_right (Nat.le_refl _), Nat.sub_self, List.getElem?_cons_zero]

theorem exec_deadlineTimerExpiry_running (table : s.tablet.relays = pre ++ e :: post) (left : e.deadline ≠ 0) :
    exec (.deadlineTimerExpiry pre.length) s = .next s := by
  show execDeadlineTimerExpiry _ s = _
  rw [execDeadlineTimerExpiry, relays_at table]
  exact congrArg _ (if_neg left)

theorem exec_deadlineTimerExpiry_out (table : s.tablet.relays = pre ++ e :: post) (out : e.deadline = 0) :
    exec (.deadlineTimerExpiry pre.length) s =
      .next (answerRelay e .noAnswer [] (removeRelay e.id (withdraw e.id s))) := by
  show execDeadlineTimerExpiry _ s = _
  rw [execDeadlineTimerExpiry, relays_at table]
  exact congrArg _ (if_pos out)

/-- An entry that waits for an ANSWER of a tag from a station. -/
def Relay.awaits (tag : Byte) (sender : BitVec 4) (r : Relay) : Prop := r.status = .sent ∧ r.tag = tag ∧ r.dest = sender

theorem awaits_iff {tag : Byte} {sender : BitVec 4} {r : Relay} :
    (r.status == .sent && r.tag == tag && r.dest == sender) = true ↔ r.awaits tag sender := by
  simp [Relay.awaits, and_assoc]

theorem matchRelay_none {tag : Byte} {sender : BitVec 4} (h : ∀ r ∈ s.tablet.relays, ¬ r.awaits tag sender) :
    matchRelay tag sender s = none :=
  List.find?_eq_none.mpr fun r hr awaited => h r hr (awaits_iff.mp awaited)

theorem matchRelay_oldest {tag : Byte} {sender : BitVec 4} (table : s.tablet.relays = pre ++ e :: post)
    (awaited : e.awaits tag sender) (older : ∀ r ∈ pre, ¬ r.awaits tag sender) : matchRelay tag sender s = some e := by
  have none_before := List.find?_eq_none.mpr fun r hr match_ => older r hr (awaits_iff.mp match_)
  rw [matchRelay, table, List.find?_append, none_before, Option.none_or]
  exact List.find?_cons_of_pos (awaits_iff.mpr awaited)

end Table

section TakeAnswer

variable {sender : BitVec 4} {addressee tag result : Byte} {data : List Byte} {s : State}

theorem takeAnswer_unmatched (none : matchRelay tag sender s = none) :
    takeAnswer sender (addressee :: tag :: result :: data) s = s := by
  simp only [takeAnswer, none]

theorem takeAnswer_matched {e : Relay} (found : matchRelay tag sender s = some e) (fits : data.length ≤ 56) :
    takeAnswer sender (addressee :: tag :: result :: data) s =
      placeAnswer ([1, tag, sender.setWidth 8, result] ++ data) (removeRelay e.id s) := by
  simp only [takeAnswer, found, List.take_of_length_le fits]

theorem takeAnswer_short {p : List Byte} (short : p.length < 3) : takeAnswer sender p s = s := by
  match p, short with
  | [], _ => rfl
  | [_], _ => rfl
  | [_, _], _ => rfl

end TakeAnswer

/-- Settles O58: `offer_waits` for the COMMAND frame; the entry that a deadline or an ANSWER ends is found by its identity. -/
theorem relaysRun : Obligations.RelaysRun := by
  refine ⟨fun h dest body s => ⟨relay_long, relay_noRoute, fun fits linked present =>
      ⟨relay_busy fits linked present, fun room short busy => ?_⟩⟩,
    fun s pre post e table ids => ⟨exec_deadlineTimerExpiry_running table, fun out => ⟨(withdraw e.id s).link.queue, ?_,
      List.filter_sublist, fun f hf => ?_⟩⟩,
    fun sender rest s verdict waiting other present held => ?_,
    fun sender addressee tag result data s fits => ⟨fun none => takeAnswer_unmatched (matchRelay_none none),
      fun pre e post table ids sent same dest older => ?_, fun p short => takeAnswer_short short⟩⟩
  · rw [relay_queues fits linked present room (offer_waits linked nofun short busy), newFrame_command]
  · rw [exec_deadlineTimerExpiry_out table out, removeRelay_split (s := withdraw e.id s) table ids]
    rfl
  · rw [withdraw, List.mem_filter]
    cases waits : f.contending <;> simp [hf]
  · rw [exec_frameDelivered_directed (sub := 1) (by omega) verdict waiting other present held, takeDirected_answer]
    exact congrArg _ (if_pos rfl)
  · rw [takeAnswer_matched (matchRelay_oldest table ⟨sent, same, dest⟩ older) (by omega), removeRelay_split table ids]

/-! ## The report queue (R165 to R168) -/

theorem placeRecord_fits {spare carried : Nat} {body : List Byte} {s : State}
    (room : segments body.length + spare ≤ 48 - usedSegments s.tablet.reports) : placeRecord spare carried body s =
      { s with tablet := { s.tablet with reports := s.tablet.reports ++ [body] } } := if_pos room

theorem placeRecord_lost {spare carried : Nat} {body : List Byte} {s : State}
    (full : 48 - usedSegments s.tablet.reports < segments body.length + spare) :
    placeRecord spare carried body s = addLost (carried + 1) s := if_neg (Nat.not_le.mpr full)

/-- The state an event is routed from: the lost count goes with the event. -/
def lostTaken (s : State) : State := { s with tablet := { s.tablet with lost := 0 } }

theorem addLost_lostTaken (n : Nat) (s : State) :
    addLost n (lostTaken s) = { s with tablet := { s.tablet with lost := min 255 n } } := by
  show ({ s with tablet := { s.tablet with lost := min 255 (0 + n) } } : State) = _
  rw [Nat.zero_add]

/-- A lost count that no record takes is kept. -/
theorem addLost_restores {s : State} (bounded : s.tablet.lost ≤ 255) : addLost s.tablet.lost (lostTaken s) = s := by
  rw [addLost_lostTaken, Nat.min_eq_right bounded]

theorem raiseEvent_unmasked {k : EventKind} {subject : Byte} {arg : Word} {s : State}
    (unmasked : s.tablet.mask.getLsbD k.code = true) :
    raiseEvent k subject arg s = routeEvent (toByte k.code) subject arg s.tablet.lost (lostTaken s) := if_pos unmasked

section Route

variable {kind subject : Byte} {arg : Word} {lost : Nat} {s : State}

theorem routeEvent_none (h : s.tablet.route = .none) : routeEvent kind subject arg lost s = addLost lost s := by
  unfold routeEvent
  rw [h]

theorem routeEvent_low (h : s.tablet.route = .self) (low : s.tablet.linkUp = false) :
    routeEvent kind subject arg lost s = addLost lost s := by
  unfold routeEvent
  rw [h, low]
  rfl

theorem routeEvent_self (h : s.tablet.route = .self) (up : s.tablet.linkUp = true) : routeEvent kind subject arg lost s =
    placeRecord 8 lost (eventBody kind s.ownByte subject arg lost) s := by
  unfold routeEvent
  rw [h, up]
  rfl

theorem routeEvent_station {st : BitVec 4} (h : s.tablet.route = .station st) {t : State} {taken : Bool}
    (offered : offer (.notice lost) (noticePayload (st.setWidth 8) kind subject arg lost) s = (t, taken)) :
    routeEvent kind subject arg lost s = if taken then t else addLost (lost + 1) t := by
  unfold routeEvent
  rw [h]
  exact congrArg (fun o : State × Bool => if o.2 then o.1 else addLost (lost + 1) o.1) offered

end Route

theorem segments_eventBody (kind origin subject : Byte) (arg : Word) (lost : Nat) :
    segments (eventBody kind origin subject arg lost).length = 1 := by
  simp [eventBody, wordBytes, segments]

section EventRecord

variable {kind origin subject : Byte} {arg : Word} {lost carried : Nat} {s : State}

theorem placeRecord_event (room : usedSegments s.tablet.reports ≤ 39) :
    placeRecord 8 carried (eventBody kind origin subject arg lost) s = { s with tablet := { s.tablet with
      reports := s.tablet.reports ++ [eventBody kind origin subject arg lost] } } :=
  placeRecord_fits (by rw [segments_eventBody]; omega)

theorem placeRecord_noEvent (full : 40 ≤ usedSegments s.tablet.reports) :
    placeRecord 8 carried (eventBody kind origin subject arg lost) s = addLost (carried + 1) s :=
  placeRecord_lost (by rw [segments_eventBody]; omega)

end EventRecord

theorem getLsbD_word (w x y z : Byte) (i : Nat) : (word w x y z).getLsbD i =
    if i < 8 then z.getLsbD i else if i - 8 < 8 then y.getLsbD (i - 8)
      else if i - 8 - 8 < 8 then x.getLsbD (i - 8 - 8) else w.getLsbD (i - 8 - 8 - 8) := by
  unfold word
  rw [BitVec.getLsbD_append, BitVec.getLsbD_append, BitVec.getLsbD_append]

/-- The bytes of a word put together are the four it was put together from (R172). -/
theorem wordBytes_word (w x y z : Byte) : wordBytes (word w x y z) = [w, x, y, z] := by
  have bytes : (word w x y z).extractLsb' 24 8 = w ∧ (word w x y z).extractLsb' 16 8 = x ∧
      (word w x y z).extractLsb' 8 8 = y ∧ (word w x y z).extractLsb' 0 8 = z := by
    refine ⟨?_, ?_, ?_, ?_⟩ <;> ext i hi <;> rw [BitVec.getElem_extractLsb', getLsbD_word] <;> grind
  obtain ⟨first, second, third, fourth⟩ := bytes
  rw [wordBytes, first, second, third, fourth]

theorem segments_answer {a b c d : Byte} {data : List Byte} (fits : data.length ≤ 37) :
    1 < segments ([a, b, c, d] ++ data).length ∧ segments ([a, b, c, d] ++ data).length ≤ 3 ∨
      segments ([a, b, c, d] ++ data).length = 1 := by
  simp only [segments, List.length_append, List.length_cons, List.length_nil]
  omega

section Answer

variable {h : ReqCtx} {c : Result} {d : List Byte} {s : State}

theorem answer_self (self : h.dest = .self) (fits : d.length ≤ 56) :
    answer h c d s = placeAnswer ([1, h.tag, h.station, c.code] ++ d) s := by
  unfold answer
  rw [self]
  show placeAnswer ([1, h.tag, h.station, c.code] ++ d.take 56) s = _
  rw [List.take_of_length_le fits]

theorem answer_station {st : BitVec 4} (away : h.dest = .station st) (fits : d.length ≤ 37) {t : State} {taken : Bool}
    (offered : offer .answer ([st.setWidth 8, h.tag, c.code] ++ d) s = (t, taken)) :
    answer h c d s = if taken then t else addLost 1 t := by
  unfold answer
  rw [away]
  have whole : answerPayload (st.setWidth 8) h.tag c d = [st.setWidth 8, h.tag, c.code] ++ d := by
    rw [answerPayload, List.take_of_length_le fits]
  exact congrArg (fun o : State × Bool => if o.2 then o.1 else addLost 1 o.1) (whole ▸ offered)

end Answer

section Notice

variable {sender : BitVec 4} {a b kind subject w x y z lost : Byte} {s : State}

theorem takeNotice_low (low : s.tablet.linkUp = false) : takeNotice sender [a, b, kind, subject, w, x, y, z, lost] s = s :=
  if_neg (by rw [low]; exact Bool.false_ne_true)

theorem takeNotice_up (up : s.tablet.linkUp = true) : takeNotice sender [a, b, kind, subject, w, x, y, z, lost] s =
    placeRecord 8 (min 255 (lost.toNat + s.tablet.lost)) (eventBody kind (sender.setWidth 8) subject (word w x y z)
      (min 255 (lost.toNat + s.tablet.lost))) (lostTaken s) := if_pos up

theorem takeNotice_ill {p : List Byte} (ill : p.length ≠ 9) : takeNotice sender p s = s := by
  unfold takeNotice
  split
  · exact absurd rfl ill
  · rfl

end Notice

/-- Settles O59: by the mask and the route for an event, by the destination for an answer. -/
theorem reportsFollowRoute : Obligations.ReportsFollowRoute := by
  refine ⟨fun k subject arg s => ⟨fun masked => if_neg (by rw [masked]; exact Bool.false_ne_true), fun unmasked bounded =>
      ⟨fun nowhere => ?_, fun self up room => ?_, fun self up full => ?_, fun st away linked =>
        ⟨fun short busy => ?_, fun full others => ?_⟩⟩⟩,
    fun h c d s fits => ⟨fun self => ⟨fun low => ?_, fun up room => ?_, fun up full => ?_⟩,
      fun st away linked => ⟨fun short busy => ?_, fun full others => ?_⟩⟩,
    fun sender a b kind subject w x y z lost s => ⟨takeNotice_low, fun up room => ?_, fun p ill => takeNotice_ill ill⟩,
    fun sender rest s verdict waiting other present held => ?_⟩
  · rw [raiseEvent_unmasked unmasked]
    rcases nowhere with none | ⟨self, low⟩
    · exact (routeEvent_none (s := lostTaken s) none).trans (addLost_restores bounded)
    · exact (routeEvent_low (s := lostTaken s) self low).trans (addLost_restores bounded)
  · rw [raiseEvent_unmasked unmasked, routeEvent_self (s := lostTaken s) self up,
      placeRecord_event (s := lostTaken s) room]
    rfl
  · rw [raiseEvent_unmasked unmasked, routeEvent_self (s := lostTaken s) self up,
      placeRecord_noEvent (s := lostTaken s) full, addLost_lostTaken]
  · rw [raiseEvent_unmasked unmasked, routeEvent_station (s := lostTaken s) away (offer_waits linked nofun short busy),
      if_pos rfl, newFrame_notice]
    rfl
  · rw [raiseEvent_unmasked unmasked, routeEvent_station (s := lostTaken s) away (offer_full linked nofun full others),
      if_neg Bool.false_ne_true, addLost_lostTaken]
  · rw [answer_self self (by omega)]
    exact if_neg (by rw [low]; exact Bool.false_ne_true)
  · rw [answer_self self (by omega), placeAnswer, if_pos up, placeRecord_fits]
    have := segments_answer (a := 1) (b := h.tag) (c := h.station) (d := c.code) fits
    omega
  · rw [answer_self self (by omega), placeAnswer, if_pos up, placeRecord_lost]
    · rfl
    · have := segments_answer (a := 1) (b := h.tag) (c := h.station) (d := c.code) fits
      omega
  · rw [answer_station away fits (offer_waits linked nofun short busy), if_pos rfl, newFrame_answer]
  · rw [answer_station away fits (offer_full linked nofun full others), if_neg Bool.false_ne_true]
    rfl
  · rw [takeNotice_up up, placeRecord_event (s := lostTaken s) room, eventBody, wordBytes_word]
    rfl
  · rw [exec_frameDelivered_directed (sub := 2) (by omega) verdict waiting other present held, takeDirected_notice]
    exact congrArg _ (if_pos rfl)

end Sys2Proof.Machine
end

section
/-! PROOFS. The state after reset, the idle millisecond, and the course of a reset. -/

namespace Sys2Proof.Machine

/-! ## The state after reset -/

theorem get_replicate {α : Type} {n : Nat} (x : α) (i : Fin n) : (Vector.replicate n x).get i = x := by
  rw [Vector.get_eq_getElem, Vector.getElem_replicate]

@[simp] theorem chan_reset (c : Fin 4) : State.reset.chan c = Channel.reset false false := get_replicate _ c

@[simp] theorem port_reset (p : Fin 4) : State.reset.port p = Port.reset := get_replicate _ p

@[simp] theorem watch_reset (k : Fin 8) : State.reset.watch k = none := get_replicate _ k

@[simp] theorem entry_reset (k : Fin 16) : State.reset.entry k = none := get_replicate _ k

theorem source_reset_idle : ∀ k : Fin 8, (State.reset.source k).state = .inactive ∧
    (State.reset.source k).condition = false ∧ (State.reset.source k).timer = none := by decide

theorem source_reset_settings : ∀ k : Fin 8, (4 ≤ k.val → (State.reset.source k).reaction ≠ .channelStop) ∧
    (State.reset.source k).grace ≤ 2000 := by decide

theorem stilled_reset : Stilled State.reset := by
  refine ⟨fun halted => absurd halted Bool.false_ne_true, fun c _ => ?_⟩
  rw [chan_reset]
  rfl

theorem linkSafe_reset : LinkSafe State.reset := by decide

theorem reportSafe_reset : ReportSafe State.reset := by decide

theorem cueSafe_reset : CueSafe State.reset := by decide

theorem soundSafe_reset : SoundSafe State.reset := by decide

theorem chanSafe_reset : chanSafe (Channel.reset false false) := by decide

theorem motorSafe_reset : MotorSafe State.reset :=
  ⟨fun c => (chan_reset c).symm ▸ chanSafe_reset, fun sag => absurd sag (by decide)⟩

theorem unitSafe_reset : UnitSafe State.reset := by
  refine ⟨fun k => ?_, fun k => (source_reset_settings k).1, fun k => (source_reset_settings k).2, fun k e held => ?_,
    fun runs => absurd runs Bool.false_ne_true⟩
  · obtain ⟨idle, _, stopped⟩ := source_reset_idle k
    rw [idle, stopped]
    rfl
  · rw [entry_reset] at held
    exact absurd held List.not_mem_nil

/-- Settles O13, block by block. -/
theorem resetIsSafe : Obligations.ResetIsSafe := by
  refine ⟨⟨stilled_reset, linkSafe_reset, reportSafe_reset, cueSafe_reset, soundSafe_reset, motorSafe_reset,
    unitSafe_reset⟩, rfl, rfl, rfl, rfl, rfl, rfl, rfl, rfl, rfl, fun n => get_replicate _ n.toFin, rfl, entry_reset, rfl,
    fun c => ?_, fun p => ?_, watch_reset, rfl, rfl, rfl, rfl, rfl, rfl, rfl, rfl, fun k => ?_, rfl, rfl, rfl, rfl,
        rfl, rfl, rfl,
    rfl, rfl, rfl, rfl, rfl, rfl, rfl⟩
  · rw [chan_reset]
    exact ⟨rfl, rfl, rfl, rfl, rfl, rfl, rfl, rfl, rfl, rfl, rfl, rfl, rfl⟩
  · rw [port_reset]
    exact ⟨rfl, rfl, rfl, rfl, rfl, rfl⟩
  · exact ⟨(source_reset_idle k).1, (source_reset_idle k).2.1⟩

/-! ## The idle millisecond -/

theorem step_command {c : Instr} {rest : List Instr} {s : State} (front : s.pending = c :: rest) :
    step s = exec c { s with pending := rest } := by
  unfold step
  rw [front]

theorem step_idle {s : State} (idle : s.pending = []) : step s = .next (tick s) := by
  unfold step
  rw [idle]

theorem tick_reset {s : State} (resets : s.inReset = true) : tick s = s := if_pos resets

/-- What a millisecond makes of a running station. -/
def ticked (s : State) : State := { s with
  link := { s.link with roster := mapEach countDown s.link.roster, dupTimer := countDown s.link.dupTimer }
  publish := { s.publish with timer := countDown s.publish.timer }
  listen := mapEach (fun e => e.map tickEntry) s.listen
  cue := { s.cue with clock := s.cue.clock + 1 }
  ports := mapEach tickPort s.ports
  fault := { s.fault with
    sources := mapEach (fun f => { f with timer := countUp f.timer }) s.fault.sources
    keepTimer := countDown s.fault.keepTimer }
  tablet := { s.tablet with relays := s.tablet.relays.map fun r => { r with deadline := r.deadline - 1 } } }

theorem tick_running {s : State} (running : s.inReset = false) : tick s = ticked s :=
  if_neg (by rw [running]; exact Bool.false_ne_true)

/-- Settles O1: the queue's front decides, and the idle millisecond maps each table entry by entry. -/
theorem stepRunsFrontCommand : Obligations.StepRunsFrontCommand := by
  refine ⟨fun c rest s => step_command, fun s idle resets => ?_, fun s idle running => ⟨ticked s, ?_, rfl,
    fun n => get_mapEach countDown s.link.roster _, fun k => get_mapEach _ s.listen k, fun p => get_mapEach tickPort s.ports p,
    fun k => get_mapEach _ s.fault.sources k⟩⟩
  · rw [step_idle idle, tick_reset resets]
  · rw [step_idle idle, tick_running running]

/-! ## The end of a reset (R14, R142, R145, R171, R178) -/

theorem vbat_filled (battery : Nat) : ({ window := Vector.replicate 16 battery, state := .normal, temperature := 0 } :
    Supply).vbat = battery := by
  rw [Supply.vbat, Vector.toList_replicate, List.sum_replicate_nat, Nat.mul_div_cancel_left _ (by decide)]

/-- A battery voltage that no threshold of NORMAL lies above moves nothing. -/
theorem vbatStep_normal {s : State} (normal : s.supply.state = .normal) (healthy : 5800 ≤ s.supply.vbat)
    (told : (s.source srcSupplyLow).condition = false) (unwatched : ∀ k, s.watch k = none) : vbatStep s = s := by
  have steady : Steady s := lowNow_steady (.inl ⟨told, by omega⟩)
  have stays : nextSupply s.supply.state s.supply.vbat = s.supply.state := by
    rw [normal, nextSupply, if_neg (by omega), if_neg (by omega)]
  rw [vbatStep_quiet unwatched steady, supplied_same stays]

theorem temperatureStep_cool {s : State} {deg : Int} (cool : deg ≤ 125) (told : (s.source srcOverheat).condition = false) :
    temperatureStep deg s = { s with supply := { s.supply with temperature := deg } } := by
  have same : hotNow (s.source srcOverheat).condition deg = (s.source srcOverheat).condition := by
    rw [told]
    exact decide_eq_false (by omega)
  exact (congrArg (tellCondition srcOverheat · { s with supply := { s.supply with temperature := deg } }) same).trans
    (tellCondition_same ..)

/-- The state as the pins leave it at the end of a reset, before the supply monitor looks at it. -/
def pinsRead (p : Straps) (battery : Nat) (up : Bool) (s : State) : State := { s with
  inReset := false
  straps := p
  link := linkStart p
  supply := { s.supply with window := Vector.replicate 16 battery }
  tablet := if up then { s.tablet with linkUp := true }
    else { s.tablet with linkUp := false, reports := [], rx := .hunt } }

theorem source_pinsRead (p : Straps) (battery : Nat) (up : Bool) (s : State) (k : Fin 8) :
    (pinsRead p battery up s).source k = s.source k := rfl

theorem resetEnd_eq (p : Straps) (battery : Nat) (temperature : Int) (up : Bool) (s : State) :
    resetEnd p battery temperature up s = temperatureStep temperature (vbatStep (pinsRead p battery up s)) := by
  cases up <;> rfl

theorem execResetEnd_running {p : Straps} {battery : Nat} {temperature : Int} {up : Bool} {s : State}
    (running : s.inReset = false) : exec (.resetEnd p battery temperature up) s = .next s :=
  congrArg Host.Outcome.next (if_neg (by rw [running]; exact Bool.false_ne_true))

theorem execResetEnd_resets {p : Straps} {battery : Nat} {temperature : Int} {up : Bool} {s : State}
    (resets : s.inReset = true) :
    exec (.resetEnd p battery temperature up) s = .next (resetEnd p battery temperature up s) :=
  congrArg Host.Outcome.next (if_pos resets)

/-! ## The answer of a RESTART (R170) -/

theorem answerRestart_goes {h : ReqCtx} {s : State} (reached : h.dest = .self ∨ s.standalone = false) :
    answerRestart h s = answer h .ok [s.ownByte] s := by
  unfold answerRestart
  cases dest : h.dest with
  | self => rfl
  | station st =>
    have linked : s.standalone = false := reached.resolve_left (by rw [dest]; nofun)
    exact if_neg (by rw [linked]; exact Bool.false_ne_true)

theorem answerRestart_discarded {h : ReqCtx} {s : State} {st : BitVec 4} (away : h.dest = .station st)
    (alone : s.standalone = true) : answerRestart h s = s := by
  unfold answerRestart
  rw [away]
  exact if_pos alone

theorem exec_restartDone_waits {s : State} (h : s.inReset = true ∨ s.tablet.restart = none) :
    exec .restartDone s = .next s := by
  show execRestartDone s = _
  unfold execRestartDone
  rcases h with resets | none
  · rw [resets]
  · rw [none]
    cases s.inReset <;> rfl

theorem exec_restartDone_answers {s : State} {h : ReqCtx} (running : s.inReset = false)
    (waits : s.tablet.restart = some h) :
    exec .restartDone s = .next (answerRestart h { s with tablet := { s.tablet with restart := none } }) := by
  show execRestartDone s = _
  unfold execRestartDone
  rw [running, waits]

/-- Settles O60: with a healthy battery the end of a reset is what the pins read. -/
theorem resetsRunTheirCourse : Obligations.ResetsRunTheirCourse := by
  refine ⟨fun h s => ⟨resetBlocks s, rfl, rfl, rfl, fun c => ?_, rfl⟩,
    fun p battery temperature up s => ⟨execResetEnd_running, fun resets normal healthy cool hot low unwatched => ?_⟩,
    fun s => ⟨exec_restartDone_waits, fun h running waits => ⟨fun reached => ?_, fun st away alone => ?_⟩⟩⟩
  · rw [chan_resetBlocks, chan_reset]
    rfl
  · have vbat : (pinsRead p battery up s).supply.vbat = battery := vbat_filled battery
    have quiet : vbatStep (pinsRead p battery up s) = pinsRead p battery up s :=
      vbatStep_normal normal (by rw [vbat]; exact healthy) (by rw [source_pinsRead]; exact low) unwatched
    have unheated : temperatureStep temperature (pinsRead p battery up s) = _ :=
      temperatureStep_cool cool (by rw [source_pinsRead]; exact hot)
    rw [execResetEnd_resets resets, resetEnd_eq, quiet, unheated, ← normal]
    rfl
  · rw [exec_restartDone_answers running waits]
    exact congrArg _ (answerRestart_goes reached)
  · rw [exec_restartDone_answers running waits]
    exact congrArg _ (answerRestart_discarded away alone)

end Sys2Proof.Machine
end
